-- ==== Sys2Proof/Word.lean ====
section
/-! DEFINITION. The two word types of the SM83 core (00_scope.md R6, R7): bytes and 16-bit words. -/

namespace Sys2Proof

/-- An 8-bit value (`u8` of 00_scope.md R7). -/
abbrev Byte := BitVec 8

/-- A 16-bit value (`u16` of 00_scope.md R7): addresses, SP, PC, register pairs, 16-bit immediates. -/
abbrev Word := BitVec 16

end Sys2Proof
end

