-- ==== Sys2Proof/Syntax.lean ====
section
/-! DEFINITION. The abstract instructions of the SM83 core: the operand alphabets of 30_encoding.md R301 to R307 and
one constructor of `Instr` for each of the 511 rows of spec/opcode_table.json, its immediates (R308) as arguments.
Below `Instr`, for each family of rows that differ only in an encoded operand, the function from operands to rows
(the R310 and R311 maps read by family), so that statements can speak of a family at once. -/

namespace Sys2Proof

/-- The 8-bit registers a 3-bit register field can name (R301, value 6 apart). -/
inductive Reg8 where
  | b | c | d | e | h | l | a
  deriving DecidableEq, Repr

/-- The operand of a 3-bit register field (R301): a register, or (value 6) the byte at the address in HL. -/
inductive Operand8 where
  | reg (r : Reg8)
  | atHL
  deriving DecidableEq, Repr

/-- The 16-bit register field `dd` (R302). -/
inductive Pair where
  | bc | de | hl | sp
  deriving DecidableEq, Repr

/-- The stack register field `qq` (R303). -/
inductive StackPair where
  | bc | de | hl | af
  deriving DecidableEq, Repr

/-- The condition field `cc` (R304). -/
inductive Cond where
  | nz | z | nc | c
  deriving DecidableEq, Repr

/-- The 8-bit ALU operation field (R305). -/
inductive AluOp where
  | add | adc | sub | sbc | and | xor | or | cp
  deriving DecidableEq, Repr

/-- The rotate and shift operation field of the CB map (R306). -/
inductive RotOp where
  | rlc | rrc | rl | rr | sla | sra | swap | srl
  deriving DecidableEq, Repr

/-- The eleven undefined opcodes (R312). -/
inductive UndefinedOp where
  | xD3 | xDB | xDD | xE3 | xE4 | xEB | xEC | xED | xF4 | xFC | xFD
  deriving DecidableEq, Repr

/-- The eight buttons of the joypad (R125, R852). -/
inductive Button where
  | right | left | up | down | a | b | select | start
  deriving DecidableEq, Repr

/-- One constructor per row of spec/opcode_table.json: the rows with an immediate first, then the others, each part in
the table's order (Lean's compiler bounds the position of a constructor that has fields). `at…` marks a memory operand: `atHL` is
`(HL)`, `atHLI` is `(HL+)`, `atHLD` is `(HL-)`, `atA16` is `(a16)`, `atA8` is `(a8)`; R315 gives the assembler
spellings. -/
inductive Instr where
  | ld_BC_d16 (v : Word)
  | ld_B_d8 (v : Byte)
  | ld_atA16_SP (v : Word)
  | ld_C_d8 (v : Byte)
  | stop (v : Byte)
  | ld_DE_d16 (v : Word)
  | ld_D_d8 (v : Byte)
  | jr_r8 (v : Byte)
  | ld_E_d8 (v : Byte)
  | jr_NZ_r8 (v : Byte)
  | ld_HL_d16 (v : Word)
  | ld_H_d8 (v : Byte)
  | jr_Z_r8 (v : Byte)
  | ld_L_d8 (v : Byte)
  | jr_NC_r8 (v : Byte)
  | ld_SP_d16 (v : Word)
  | ld_atHL_d8 (v : Byte)
  | jr_C_r8 (v : Byte)
  | ld_A_d8 (v : Byte)
  | jp_NZ_a16 (v : Word)
  | jp_a16 (v : Word)
  | call_NZ_a16 (v : Word)
  | add_A_d8 (v : Byte)
  | jp_Z_a16 (v : Word)
  | call_Z_a16 (v : Word)
  | call_a16 (v : Word)
  | adc_A_d8 (v : Byte)
  | jp_NC_a16 (v : Word)
  | call_NC_a16 (v : Word)
  | sub_d8 (v : Byte)
  | jp_C_a16 (v : Word)
  | call_C_a16 (v : Word)
  | sbc_A_d8 (v : Byte)
  | ldh_atA8_A (v : Byte)
  | and_d8 (v : Byte)
  | add_SP_r8 (v : Byte)
  | ld_atA16_A (v : Word)
  | xor_d8 (v : Byte)
  | ldh_A_atA8 (v : Byte)
  | or_d8 (v : Byte)
  | ld_HL_SPr8 (v : Byte)
  | ld_A_atA16 (v : Word)
  | cp_d8 (v : Byte)
  | nop
  | ld_atBC_A
  | inc_BC
  | inc_B
  | dec_B
  | rlca
  | add_HL_BC
  | ld_A_atBC
  | dec_BC
  | inc_C
  | dec_C
  | rrca
  | ld_atDE_A
  | inc_DE
  | inc_D
  | dec_D
  | rla
  | add_HL_DE
  | ld_A_atDE
  | dec_DE
  | inc_E
  | dec_E
  | rra
  | ld_atHLI_A
  | inc_HL
  | inc_H
  | dec_H
  | daa
  | add_HL_HL
  | ld_A_atHLI
  | dec_HL
  | inc_L
  | dec_L
  | cpl
  | ld_atHLD_A
  | inc_SP
  | inc_atHL
  | dec_atHL
  | scf
  | add_HL_SP
  | ld_A_atHLD
  | dec_SP
  | inc_A
  | dec_A
  | ccf
  | ld_B_B
  | ld_B_C
  | ld_B_D
  | ld_B_E
  | ld_B_H
  | ld_B_L
  | ld_B_atHL
  | ld_B_A
  | ld_C_B
  | ld_C_C
  | ld_C_D
  | ld_C_E
  | ld_C_H
  | ld_C_L
  | ld_C_atHL
  | ld_C_A
  | ld_D_B
  | ld_D_C
  | ld_D_D
  | ld_D_E
  | ld_D_H
  | ld_D_L
  | ld_D_atHL
  | ld_D_A
  | ld_E_B
  | ld_E_C
  | ld_E_D
  | ld_E_E
  | ld_E_H
  | ld_E_L
  | ld_E_atHL
  | ld_E_A
  | ld_H_B
  | ld_H_C
  | ld_H_D
  | ld_H_E
  | ld_H_H
  | ld_H_L
  | ld_H_atHL
  | ld_H_A
  | ld_L_B
  | ld_L_C
  | ld_L_D
  | ld_L_E
  | ld_L_H
  | ld_L_L
  | ld_L_atHL
  | ld_L_A
  | ld_atHL_B
  | ld_atHL_C
  | ld_atHL_D
  | ld_atHL_E
  | ld_atHL_H
  | ld_atHL_L
  | halt
  | ld_atHL_A
  | ld_A_B
  | ld_A_C
  | ld_A_D
  | ld_A_E
  | ld_A_H
  | ld_A_L
  | ld_A_atHL
  | ld_A_A
  | add_A_B
  | add_A_C
  | add_A_D
  | add_A_E
  | add_A_H
  | add_A_L
  | add_A_atHL
  | add_A_A
  | adc_A_B
  | adc_A_C
  | adc_A_D
  | adc_A_E
  | adc_A_H
  | adc_A_L
  | adc_A_atHL
  | adc_A_A
  | sub_B
  | sub_C
  | sub_D
  | sub_E
  | sub_H
  | sub_L
  | sub_atHL
  | sub_A
  | sbc_A_B
  | sbc_A_C
  | sbc_A_D
  | sbc_A_E
  | sbc_A_H
  | sbc_A_L
  | sbc_A_atHL
  | sbc_A_A
  | and_B
  | and_C
  | and_D
  | and_E
  | and_H
  | and_L
  | and_atHL
  | and_A
  | xor_B
  | xor_C
  | xor_D
  | xor_E
  | xor_H
  | xor_L
  | xor_atHL
  | xor_A
  | or_B
  | or_C
  | or_D
  | or_E
  | or_H
  | or_L
  | or_atHL
  | or_A
  | cp_B
  | cp_C
  | cp_D
  | cp_E
  | cp_H
  | cp_L
  | cp_atHL
  | cp_A
  | ret_NZ
  | pop_BC
  | push_BC
  | rst_00h
  | ret_Z
  | ret
  | rst_08h
  | ret_NC
  | pop_DE
  | undefined_D3
  | push_DE
  | rst_10h
  | ret_C
  | reti
  | undefined_DB
  | undefined_DD
  | rst_18h
  | pop_HL
  | ld_atC_A
  | undefined_E3
  | undefined_E4
  | push_HL
  | rst_20h
  | jp_HL
  | undefined_EB
  | undefined_EC
  | undefined_ED
  | rst_28h
  | pop_AF
  | ld_A_atC
  | di
  | undefined_F4
  | push_AF
  | rst_30h
  | ld_SP_HL
  | ei
  | undefined_FC
  | undefined_FD
  | rst_38h
  | rlc_B
  | rlc_C
  | rlc_D
  | rlc_E
  | rlc_H
  | rlc_L
  | rlc_atHL
  | rlc_A
  | rrc_B
  | rrc_C
  | rrc_D
  | rrc_E
  | rrc_H
  | rrc_L
  | rrc_atHL
  | rrc_A
  | rl_B
  | rl_C
  | rl_D
  | rl_E
  | rl_H
  | rl_L
  | rl_atHL
  | rl_A
  | rr_B
  | rr_C
  | rr_D
  | rr_E
  | rr_H
  | rr_L
  | rr_atHL
  | rr_A
  | sla_B
  | sla_C
  | sla_D
  | sla_E
  | sla_H
  | sla_L
  | sla_atHL
  | sla_A
  | sra_B
  | sra_C
  | sra_D
  | sra_E
  | sra_H
  | sra_L
  | sra_atHL
  | sra_A
  | swap_B
  | swap_C
  | swap_D
  | swap_E
  | swap_H
  | swap_L
  | swap_atHL
  | swap_A
  | srl_B
  | srl_C
  | srl_D
  | srl_E
  | srl_H
  | srl_L
  | srl_atHL
  | srl_A
  | bit_0_B
  | bit_0_C
  | bit_0_D
  | bit_0_E
  | bit_0_H
  | bit_0_L
  | bit_0_atHL
  | bit_0_A
  | bit_1_B
  | bit_1_C
  | bit_1_D
  | bit_1_E
  | bit_1_H
  | bit_1_L
  | bit_1_atHL
  | bit_1_A
  | bit_2_B
  | bit_2_C
  | bit_2_D
  | bit_2_E
  | bit_2_H
  | bit_2_L
  | bit_2_atHL
  | bit_2_A
  | bit_3_B
  | bit_3_C
  | bit_3_D
  | bit_3_E
  | bit_3_H
  | bit_3_L
  | bit_3_atHL
  | bit_3_A
  | bit_4_B
  | bit_4_C
  | bit_4_D
  | bit_4_E
  | bit_4_H
  | bit_4_L
  | bit_4_atHL
  | bit_4_A
  | bit_5_B
  | bit_5_C
  | bit_5_D
  | bit_5_E
  | bit_5_H
  | bit_5_L
  | bit_5_atHL
  | bit_5_A
  | bit_6_B
  | bit_6_C
  | bit_6_D
  | bit_6_E
  | bit_6_H
  | bit_6_L
  | bit_6_atHL
  | bit_6_A
  | bit_7_B
  | bit_7_C
  | bit_7_D
  | bit_7_E
  | bit_7_H
  | bit_7_L
  | bit_7_atHL
  | bit_7_A
  | res_0_B
  | res_0_C
  | res_0_D
  | res_0_E
  | res_0_H
  | res_0_L
  | res_0_atHL
  | res_0_A
  | res_1_B
  | res_1_C
  | res_1_D
  | res_1_E
  | res_1_H
  | res_1_L
  | res_1_atHL
  | res_1_A
  | res_2_B
  | res_2_C
  | res_2_D
  | res_2_E
  | res_2_H
  | res_2_L
  | res_2_atHL
  | res_2_A
  | res_3_B
  | res_3_C
  | res_3_D
  | res_3_E
  | res_3_H
  | res_3_L
  | res_3_atHL
  | res_3_A
  | res_4_B
  | res_4_C
  | res_4_D
  | res_4_E
  | res_4_H
  | res_4_L
  | res_4_atHL
  | res_4_A
  | res_5_B
  | res_5_C
  | res_5_D
  | res_5_E
  | res_5_H
  | res_5_L
  | res_5_atHL
  | res_5_A
  | res_6_B
  | res_6_C
  | res_6_D
  | res_6_E
  | res_6_H
  | res_6_L
  | res_6_atHL
  | res_6_A
  | res_7_B
  | res_7_C
  | res_7_D
  | res_7_E
  | res_7_H
  | res_7_L
  | res_7_atHL
  | res_7_A
  | set_0_B
  | set_0_C
  | set_0_D
  | set_0_E
  | set_0_H
  | set_0_L
  | set_0_atHL
  | set_0_A
  | set_1_B
  | set_1_C
  | set_1_D
  | set_1_E
  | set_1_H
  | set_1_L
  | set_1_atHL
  | set_1_A
  | set_2_B
  | set_2_C
  | set_2_D
  | set_2_E
  | set_2_H
  | set_2_L
  | set_2_atHL
  | set_2_A
  | set_3_B
  | set_3_C
  | set_3_D
  | set_3_E
  | set_3_H
  | set_3_L
  | set_3_atHL
  | set_3_A
  | set_4_B
  | set_4_C
  | set_4_D
  | set_4_E
  | set_4_H
  | set_4_L
  | set_4_atHL
  | set_4_A
  | set_5_B
  | set_5_C
  | set_5_D
  | set_5_E
  | set_5_H
  | set_5_L
  | set_5_atHL
  | set_5_A
  | set_6_B
  | set_6_C
  | set_6_D
  | set_6_E
  | set_6_H
  | set_6_L
  | set_6_atHL
  | set_6_A
  | set_7_B
  | set_7_C
  | set_7_D
  | set_7_E
  | set_7_H
  | set_7_L
  | set_7_atHL
  | set_7_A
  deriving DecidableEq, Repr

/-- `LD d,s` between registers (R400). -/
def Instr.ldRegReg : Reg8 → Reg8 → Instr
  | .b, .b => .ld_B_B
  | .b, .c => .ld_B_C
  | .b, .d => .ld_B_D
  | .b, .e => .ld_B_E
  | .b, .h => .ld_B_H
  | .b, .l => .ld_B_L
  | .b, .a => .ld_B_A
  | .c, .b => .ld_C_B
  | .c, .c => .ld_C_C
  | .c, .d => .ld_C_D
  | .c, .e => .ld_C_E
  | .c, .h => .ld_C_H
  | .c, .l => .ld_C_L
  | .c, .a => .ld_C_A
  | .d, .b => .ld_D_B
  | .d, .c => .ld_D_C
  | .d, .d => .ld_D_D
  | .d, .e => .ld_D_E
  | .d, .h => .ld_D_H
  | .d, .l => .ld_D_L
  | .d, .a => .ld_D_A
  | .e, .b => .ld_E_B
  | .e, .c => .ld_E_C
  | .e, .d => .ld_E_D
  | .e, .e => .ld_E_E
  | .e, .h => .ld_E_H
  | .e, .l => .ld_E_L
  | .e, .a => .ld_E_A
  | .h, .b => .ld_H_B
  | .h, .c => .ld_H_C
  | .h, .d => .ld_H_D
  | .h, .e => .ld_H_E
  | .h, .h => .ld_H_H
  | .h, .l => .ld_H_L
  | .h, .a => .ld_H_A
  | .l, .b => .ld_L_B
  | .l, .c => .ld_L_C
  | .l, .d => .ld_L_D
  | .l, .e => .ld_L_E
  | .l, .h => .ld_L_H
  | .l, .l => .ld_L_L
  | .l, .a => .ld_L_A
  | .a, .b => .ld_A_B
  | .a, .c => .ld_A_C
  | .a, .d => .ld_A_D
  | .a, .e => .ld_A_E
  | .a, .h => .ld_A_H
  | .a, .l => .ld_A_L
  | .a, .a => .ld_A_A

/-- `LD d,d8` (R401). -/
def Instr.ldRegImm (v : Byte) : Reg8 → Instr
  | .b => .ld_B_d8 v
  | .c => .ld_C_d8 v
  | .d => .ld_D_d8 v
  | .e => .ld_E_d8 v
  | .h => .ld_H_d8 v
  | .l => .ld_L_d8 v
  | .a => .ld_A_d8 v

/-- `LD d,(HL)` (R402). -/
def Instr.ldRegAtHL : Reg8 → Instr
  | .b => .ld_B_atHL
  | .c => .ld_C_atHL
  | .d => .ld_D_atHL
  | .e => .ld_E_atHL
  | .h => .ld_H_atHL
  | .l => .ld_L_atHL
  | .a => .ld_A_atHL

/-- `LD (HL),s` (R403). -/
def Instr.ldAtHLReg : Reg8 → Instr
  | .b => .ld_atHL_B
  | .c => .ld_atHL_C
  | .d => .ld_atHL_D
  | .e => .ld_atHL_E
  | .h => .ld_atHL_H
  | .l => .ld_atHL_L
  | .a => .ld_atHL_A

/-- `LD dd,d16` (R451). -/
def Instr.ldPairImm (v : Word) : Pair → Instr
  | .bc => .ld_BC_d16 v
  | .de => .ld_DE_d16 v
  | .hl => .ld_HL_d16 v
  | .sp => .ld_SP_d16 v

/-- `INC rr` (R551). -/
def Instr.incPair : Pair → Instr
  | .bc => .inc_BC
  | .de => .inc_DE
  | .hl => .inc_HL
  | .sp => .inc_SP

/-- `DEC rr` (R552). -/
def Instr.decPair : Pair → Instr
  | .bc => .dec_BC
  | .de => .dec_DE
  | .hl => .dec_HL
  | .sp => .dec_SP

/-- `ADD HL,rr` (R553). -/
def Instr.addHLPair : Pair → Instr
  | .bc => .add_HL_BC
  | .de => .add_HL_DE
  | .hl => .add_HL_HL
  | .sp => .add_HL_SP

/-- `PUSH qq` (R455). -/
def Instr.push : StackPair → Instr
  | .bc => .push_BC
  | .de => .push_DE
  | .hl => .push_HL
  | .af => .push_AF

/-- `POP qq` (R456, R457). -/
def Instr.pop : StackPair → Instr
  | .bc => .pop_BC
  | .de => .pop_DE
  | .hl => .pop_HL
  | .af => .pop_AF

/-- The ALU operations on a register or `(HL)` (R502 to R510). -/
def Instr.alu : AluOp → Operand8 → Instr
  | .add, .reg .b => .add_A_B
  | .add, .reg .c => .add_A_C
  | .add, .reg .d => .add_A_D
  | .add, .reg .e => .add_A_E
  | .add, .reg .h => .add_A_H
  | .add, .reg .l => .add_A_L
  | .add, .atHL => .add_A_atHL
  | .add, .reg .a => .add_A_A
  | .adc, .reg .b => .adc_A_B
  | .adc, .reg .c => .adc_A_C
  | .adc, .reg .d => .adc_A_D
  | .adc, .reg .e => .adc_A_E
  | .adc, .reg .h => .adc_A_H
  | .adc, .reg .l => .adc_A_L
  | .adc, .atHL => .adc_A_atHL
  | .adc, .reg .a => .adc_A_A
  | .sub, .reg .b => .sub_B
  | .sub, .reg .c => .sub_C
  | .sub, .reg .d => .sub_D
  | .sub, .reg .e => .sub_E
  | .sub, .reg .h => .sub_H
  | .sub, .reg .l => .sub_L
  | .sub, .atHL => .sub_atHL
  | .sub, .reg .a => .sub_A
  | .sbc, .reg .b => .sbc_A_B
  | .sbc, .reg .c => .sbc_A_C
  | .sbc, .reg .d => .sbc_A_D
  | .sbc, .reg .e => .sbc_A_E
  | .sbc, .reg .h => .sbc_A_H
  | .sbc, .reg .l => .sbc_A_L
  | .sbc, .atHL => .sbc_A_atHL
  | .sbc, .reg .a => .sbc_A_A
  | .and, .reg .b => .and_B
  | .and, .reg .c => .and_C
  | .and, .reg .d => .and_D
  | .and, .reg .e => .and_E
  | .and, .reg .h => .and_H
  | .and, .reg .l => .and_L
  | .and, .atHL => .and_atHL
  | .and, .reg .a => .and_A
  | .xor, .reg .b => .xor_B
  | .xor, .reg .c => .xor_C
  | .xor, .reg .d => .xor_D
  | .xor, .reg .e => .xor_E
  | .xor, .reg .h => .xor_H
  | .xor, .reg .l => .xor_L
  | .xor, .atHL => .xor_atHL
  | .xor, .reg .a => .xor_A
  | .or, .reg .b => .or_B
  | .or, .reg .c => .or_C
  | .or, .reg .d => .or_D
  | .or, .reg .e => .or_E
  | .or, .reg .h => .or_H
  | .or, .reg .l => .or_L
  | .or, .atHL => .or_atHL
  | .or, .reg .a => .or_A
  | .cp, .reg .b => .cp_B
  | .cp, .reg .c => .cp_C
  | .cp, .reg .d => .cp_D
  | .cp, .reg .e => .cp_E
  | .cp, .reg .h => .cp_H
  | .cp, .reg .l => .cp_L
  | .cp, .atHL => .cp_atHL
  | .cp, .reg .a => .cp_A

/-- The ALU operations on an immediate (R502 to R510). -/
def Instr.aluImm (v : Byte) : AluOp → Instr
  | .add => .add_A_d8 v
  | .adc => .adc_A_d8 v
  | .sub => .sub_d8 v
  | .sbc => .sbc_A_d8 v
  | .and => .and_d8 v
  | .xor => .xor_d8 v
  | .or => .or_d8 v
  | .cp => .cp_d8 v

/-- 8-bit `INC` (R511, R512). -/
def Instr.inc : Operand8 → Instr
  | .reg .b => .inc_B
  | .reg .c => .inc_C
  | .reg .d => .inc_D
  | .reg .e => .inc_E
  | .reg .h => .inc_H
  | .reg .l => .inc_L
  | .atHL => .inc_atHL
  | .reg .a => .inc_A

/-- 8-bit `DEC` (R513, R514). -/
def Instr.dec : Operand8 → Instr
  | .reg .b => .dec_B
  | .reg .c => .dec_C
  | .reg .d => .dec_D
  | .reg .e => .dec_E
  | .reg .h => .dec_H
  | .reg .l => .dec_L
  | .atHL => .dec_atHL
  | .reg .a => .dec_A

/-- The CB-prefixed rotates, shifts and SWAP (R604 to R611). -/
def Instr.rot : RotOp → Operand8 → Instr
  | .rlc, .reg .b => .rlc_B
  | .rlc, .reg .c => .rlc_C
  | .rlc, .reg .d => .rlc_D
  | .rlc, .reg .e => .rlc_E
  | .rlc, .reg .h => .rlc_H
  | .rlc, .reg .l => .rlc_L
  | .rlc, .atHL => .rlc_atHL
  | .rlc, .reg .a => .rlc_A
  | .rrc, .reg .b => .rrc_B
  | .rrc, .reg .c => .rrc_C
  | .rrc, .reg .d => .rrc_D
  | .rrc, .reg .e => .rrc_E
  | .rrc, .reg .h => .rrc_H
  | .rrc, .reg .l => .rrc_L
  | .rrc, .atHL => .rrc_atHL
  | .rrc, .reg .a => .rrc_A
  | .rl, .reg .b => .rl_B
  | .rl, .reg .c => .rl_C
  | .rl, .reg .d => .rl_D
  | .rl, .reg .e => .rl_E
  | .rl, .reg .h => .rl_H
  | .rl, .reg .l => .rl_L
  | .rl, .atHL => .rl_atHL
  | .rl, .reg .a => .rl_A
  | .rr, .reg .b => .rr_B
  | .rr, .reg .c => .rr_C
  | .rr, .reg .d => .rr_D
  | .rr, .reg .e => .rr_E
  | .rr, .reg .h => .rr_H
  | .rr, .reg .l => .rr_L
  | .rr, .atHL => .rr_atHL
  | .rr, .reg .a => .rr_A
  | .sla, .reg .b => .sla_B
  | .sla, .reg .c => .sla_C
  | .sla, .reg .d => .sla_D
  | .sla, .reg .e => .sla_E
  | .sla, .reg .h => .sla_H
  | .sla, .reg .l => .sla_L
  | .sla, .atHL => .sla_atHL
  | .sla, .reg .a => .sla_A
  | .sra, .reg .b => .sra_B
  | .sra, .reg .c => .sra_C
  | .sra, .reg .d => .sra_D
  | .sra, .reg .e => .sra_E
  | .sra, .reg .h => .sra_H
  | .sra, .reg .l => .sra_L
  | .sra, .atHL => .sra_atHL
  | .sra, .reg .a => .sra_A
  | .swap, .reg .b => .swap_B
  | .swap, .reg .c => .swap_C
  | .swap, .reg .d => .swap_D
  | .swap, .reg .e => .swap_E
  | .swap, .reg .h => .swap_H
  | .swap, .reg .l => .swap_L
  | .swap, .atHL => .swap_atHL
  | .swap, .reg .a => .swap_A
  | .srl, .reg .b => .srl_B
  | .srl, .reg .c => .srl_C
  | .srl, .reg .d => .srl_D
  | .srl, .reg .e => .srl_E
  | .srl, .reg .h => .srl_H
  | .srl, .reg .l => .srl_L
  | .srl, .atHL => .srl_atHL
  | .srl, .reg .a => .srl_A

/-- `BIT b,z` (R650). -/
def Instr.bit : Fin 8 → Operand8 → Instr
  | 0, .reg .b => .bit_0_B
  | 0, .reg .c => .bit_0_C
  | 0, .reg .d => .bit_0_D
  | 0, .reg .e => .bit_0_E
  | 0, .reg .h => .bit_0_H
  | 0, .reg .l => .bit_0_L
  | 0, .atHL => .bit_0_atHL
  | 0, .reg .a => .bit_0_A
  | 1, .reg .b => .bit_1_B
  | 1, .reg .c => .bit_1_C
  | 1, .reg .d => .bit_1_D
  | 1, .reg .e => .bit_1_E
  | 1, .reg .h => .bit_1_H
  | 1, .reg .l => .bit_1_L
  | 1, .atHL => .bit_1_atHL
  | 1, .reg .a => .bit_1_A
  | 2, .reg .b => .bit_2_B
  | 2, .reg .c => .bit_2_C
  | 2, .reg .d => .bit_2_D
  | 2, .reg .e => .bit_2_E
  | 2, .reg .h => .bit_2_H
  | 2, .reg .l => .bit_2_L
  | 2, .atHL => .bit_2_atHL
  | 2, .reg .a => .bit_2_A
  | 3, .reg .b => .bit_3_B
  | 3, .reg .c => .bit_3_C
  | 3, .reg .d => .bit_3_D
  | 3, .reg .e => .bit_3_E
  | 3, .reg .h => .bit_3_H
  | 3, .reg .l => .bit_3_L
  | 3, .atHL => .bit_3_atHL
  | 3, .reg .a => .bit_3_A
  | 4, .reg .b => .bit_4_B
  | 4, .reg .c => .bit_4_C
  | 4, .reg .d => .bit_4_D
  | 4, .reg .e => .bit_4_E
  | 4, .reg .h => .bit_4_H
  | 4, .reg .l => .bit_4_L
  | 4, .atHL => .bit_4_atHL
  | 4, .reg .a => .bit_4_A
  | 5, .reg .b => .bit_5_B
  | 5, .reg .c => .bit_5_C
  | 5, .reg .d => .bit_5_D
  | 5, .reg .e => .bit_5_E
  | 5, .reg .h => .bit_5_H
  | 5, .reg .l => .bit_5_L
  | 5, .atHL => .bit_5_atHL
  | 5, .reg .a => .bit_5_A
  | 6, .reg .b => .bit_6_B
  | 6, .reg .c => .bit_6_C
  | 6, .reg .d => .bit_6_D
  | 6, .reg .e => .bit_6_E
  | 6, .reg .h => .bit_6_H
  | 6, .reg .l => .bit_6_L
  | 6, .atHL => .bit_6_atHL
  | 6, .reg .a => .bit_6_A
  | 7, .reg .b => .bit_7_B
  | 7, .reg .c => .bit_7_C
  | 7, .reg .d => .bit_7_D
  | 7, .reg .e => .bit_7_E
  | 7, .reg .h => .bit_7_H
  | 7, .reg .l => .bit_7_L
  | 7, .atHL => .bit_7_atHL
  | 7, .reg .a => .bit_7_A

/-- `RES b,z` (R651). -/
def Instr.res : Fin 8 → Operand8 → Instr
  | 0, .reg .b => .res_0_B
  | 0, .reg .c => .res_0_C
  | 0, .reg .d => .res_0_D
  | 0, .reg .e => .res_0_E
  | 0, .reg .h => .res_0_H
  | 0, .reg .l => .res_0_L
  | 0, .atHL => .res_0_atHL
  | 0, .reg .a => .res_0_A
  | 1, .reg .b => .res_1_B
  | 1, .reg .c => .res_1_C
  | 1, .reg .d => .res_1_D
  | 1, .reg .e => .res_1_E
  | 1, .reg .h => .res_1_H
  | 1, .reg .l => .res_1_L
  | 1, .atHL => .res_1_atHL
  | 1, .reg .a => .res_1_A
  | 2, .reg .b => .res_2_B
  | 2, .reg .c => .res_2_C
  | 2, .reg .d => .res_2_D
  | 2, .reg .e => .res_2_E
  | 2, .reg .h => .res_2_H
  | 2, .reg .l => .res_2_L
  | 2, .atHL => .res_2_atHL
  | 2, .reg .a => .res_2_A
  | 3, .reg .b => .res_3_B
  | 3, .reg .c => .res_3_C
  | 3, .reg .d => .res_3_D
  | 3, .reg .e => .res_3_E
  | 3, .reg .h => .res_3_H
  | 3, .reg .l => .res_3_L
  | 3, .atHL => .res_3_atHL
  | 3, .reg .a => .res_3_A
  | 4, .reg .b => .res_4_B
  | 4, .reg .c => .res_4_C
  | 4, .reg .d => .res_4_D
  | 4, .reg .e => .res_4_E
  | 4, .reg .h => .res_4_H
  | 4, .reg .l => .res_4_L
  | 4, .atHL => .res_4_atHL
  | 4, .reg .a => .res_4_A
  | 5, .reg .b => .res_5_B
  | 5, .reg .c => .res_5_C
  | 5, .reg .d => .res_5_D
  | 5, .reg .e => .res_5_E
  | 5, .reg .h => .res_5_H
  | 5, .reg .l => .res_5_L
  | 5, .atHL => .res_5_atHL
  | 5, .reg .a => .res_5_A
  | 6, .reg .b => .res_6_B
  | 6, .reg .c => .res_6_C
  | 6, .reg .d => .res_6_D
  | 6, .reg .e => .res_6_E
  | 6, .reg .h => .res_6_H
  | 6, .reg .l => .res_6_L
  | 6, .atHL => .res_6_atHL
  | 6, .reg .a => .res_6_A
  | 7, .reg .b => .res_7_B
  | 7, .reg .c => .res_7_C
  | 7, .reg .d => .res_7_D
  | 7, .reg .e => .res_7_E
  | 7, .reg .h => .res_7_H
  | 7, .reg .l => .res_7_L
  | 7, .atHL => .res_7_atHL
  | 7, .reg .a => .res_7_A

/-- `SET b,z` (R652). -/
def Instr.set : Fin 8 → Operand8 → Instr
  | 0, .reg .b => .set_0_B
  | 0, .reg .c => .set_0_C
  | 0, .reg .d => .set_0_D
  | 0, .reg .e => .set_0_E
  | 0, .reg .h => .set_0_H
  | 0, .reg .l => .set_0_L
  | 0, .atHL => .set_0_atHL
  | 0, .reg .a => .set_0_A
  | 1, .reg .b => .set_1_B
  | 1, .reg .c => .set_1_C
  | 1, .reg .d => .set_1_D
  | 1, .reg .e => .set_1_E
  | 1, .reg .h => .set_1_H
  | 1, .reg .l => .set_1_L
  | 1, .atHL => .set_1_atHL
  | 1, .reg .a => .set_1_A
  | 2, .reg .b => .set_2_B
  | 2, .reg .c => .set_2_C
  | 2, .reg .d => .set_2_D
  | 2, .reg .e => .set_2_E
  | 2, .reg .h => .set_2_H
  | 2, .reg .l => .set_2_L
  | 2, .atHL => .set_2_atHL
  | 2, .reg .a => .set_2_A
  | 3, .reg .b => .set_3_B
  | 3, .reg .c => .set_3_C
  | 3, .reg .d => .set_3_D
  | 3, .reg .e => .set_3_E
  | 3, .reg .h => .set_3_H
  | 3, .reg .l => .set_3_L
  | 3, .atHL => .set_3_atHL
  | 3, .reg .a => .set_3_A
  | 4, .reg .b => .set_4_B
  | 4, .reg .c => .set_4_C
  | 4, .reg .d => .set_4_D
  | 4, .reg .e => .set_4_E
  | 4, .reg .h => .set_4_H
  | 4, .reg .l => .set_4_L
  | 4, .atHL => .set_4_atHL
  | 4, .reg .a => .set_4_A
  | 5, .reg .b => .set_5_B
  | 5, .reg .c => .set_5_C
  | 5, .reg .d => .set_5_D
  | 5, .reg .e => .set_5_E
  | 5, .reg .h => .set_5_H
  | 5, .reg .l => .set_5_L
  | 5, .atHL => .set_5_atHL
  | 5, .reg .a => .set_5_A
  | 6, .reg .b => .set_6_B
  | 6, .reg .c => .set_6_C
  | 6, .reg .d => .set_6_D
  | 6, .reg .e => .set_6_E
  | 6, .reg .h => .set_6_H
  | 6, .reg .l => .set_6_L
  | 6, .atHL => .set_6_atHL
  | 6, .reg .a => .set_6_A
  | 7, .reg .b => .set_7_B
  | 7, .reg .c => .set_7_C
  | 7, .reg .d => .set_7_D
  | 7, .reg .e => .set_7_E
  | 7, .reg .h => .set_7_H
  | 7, .reg .l => .set_7_L
  | 7, .atHL => .set_7_atHL
  | 7, .reg .a => .set_7_A

/-- `JP cc,a16` (R701). -/
def Instr.jpCond (v : Word) : Cond → Instr
  | .nz => .jp_NZ_a16 v
  | .z => .jp_Z_a16 v
  | .nc => .jp_NC_a16 v
  | .c => .jp_C_a16 v

/-- `JR cc,r8` (R704). -/
def Instr.jrCond (v : Byte) : Cond → Instr
  | .nz => .jr_NZ_r8 v
  | .z => .jr_Z_r8 v
  | .nc => .jr_NC_r8 v
  | .c => .jr_C_r8 v

/-- `CALL cc,a16` (R706). -/
def Instr.callCond (v : Word) : Cond → Instr
  | .nz => .call_NZ_a16 v
  | .z => .call_Z_a16 v
  | .nc => .call_NC_a16 v
  | .c => .call_C_a16 v

/-- `RET cc` (R708). -/
def Instr.retCond : Cond → Instr
  | .nz => .ret_NZ
  | .z => .ret_Z
  | .nc => .ret_NC
  | .c => .ret_C

/-- `RST t` (R710). -/
def Instr.rst : Fin 8 → Instr
  | 0 => .rst_00h
  | 1 => .rst_08h
  | 2 => .rst_10h
  | 3 => .rst_18h
  | 4 => .rst_20h
  | 5 => .rst_28h
  | 6 => .rst_30h
  | 7 => .rst_38h

/-- The undefined opcodes (R312). -/
def Instr.undefinedOp : UndefinedOp → Instr
  | .xD3 => .undefined_D3
  | .xDB => .undefined_DB
  | .xDD => .undefined_DD
  | .xE3 => .undefined_E3
  | .xE4 => .undefined_E4
  | .xEB => .undefined_EB
  | .xEC => .undefined_EC
  | .xED => .undefined_ED
  | .xF4 => .undefined_F4
  | .xFC => .undefined_FC
  | .xFD => .undefined_FD

end Sys2Proof
end

