-- ==== Sys2Proof/WellFormed.lean ====
section
/-! DEFINITION. Which instructions are defined by the instruction set. Every immediate value of every row is legal
(R308: "any byte value"), so the one check is that the opcode is not one of the eleven of R312, "the only illegal
encodings". An undefined opcode still has a constructor and a meaning (the fault of R312). -/

namespace Sys2Proof

/-- The eleven undefined opcodes (R312). -/
def undefinedInstrs : List Instr :=
  [.undefined_D3, .undefined_DB, .undefined_DD, .undefined_E3, .undefined_E4, .undefined_EB, .undefined_EC,
   .undefined_ED, .undefined_F4, .undefined_FC, .undefined_FD]

/-- `i` is an instruction of the instruction set: not an undefined opcode (R312). -/
def Instr.wellFormed (i : Instr) : Bool := undefinedInstrs.all fun u => decide (i ≠ u)

/-- `Instr.wellFormed` as a proposition. -/
abbrev WellFormed (i : Instr) : Prop := i.wellFormed = true

end Sys2Proof
end

