-- ==== Sys2Proof/Decode.lean ====
section
/-! DEFINITION. Decoding and encoding (30_encoding.md). The two opcode maps of R310 and R311 are written out row by row
(a row is a high nibble, as in the spec's maps); `decode` reads an instruction from the front of a list of bytes and
is total; `encode` writes one, and `decodeTableWord` reads a word numbered as spec/opcode_table.json numbers it. -/

namespace Sys2Proof

/-- What the first byte of an instruction fixes: the whole instruction (F1), the instruction up to its 8-bit immediate
(F2) or its 16-bit immediate (F3), or that a second opcode byte follows (FCB); R300. -/
inductive Template where
  | plain (i : Instr)
  | imm8 (f : Byte → Instr)
  | imm16 (f : Word → Instr)
  | cb

/-- Row 0x of the primary map (R310). -/
def primaryRow0 : List Template :=
  [.plain .nop, .imm16 .ld_BC_d16, .plain .ld_atBC_A, .plain .inc_BC, .plain .inc_B, .plain .dec_B, .imm8 .ld_B_d8,
   .plain .rlca, .imm16 .ld_atA16_SP, .plain .add_HL_BC, .plain .ld_A_atBC, .plain .dec_BC, .plain .inc_C,
   .plain .dec_C, .imm8 .ld_C_d8, .plain .rrca]

/-- Row 1x of the primary map (R310). -/
def primaryRow1 : List Template :=
  [.imm8 .stop, .imm16 .ld_DE_d16, .plain .ld_atDE_A, .plain .inc_DE, .plain .inc_D, .plain .dec_D, .imm8 .ld_D_d8,
   .plain .rla, .imm8 .jr_r8, .plain .add_HL_DE, .plain .ld_A_atDE, .plain .dec_DE, .plain .inc_E, .plain .dec_E,
   .imm8 .ld_E_d8, .plain .rra]

/-- Row 2x of the primary map (R310). -/
def primaryRow2 : List Template :=
  [.imm8 .jr_NZ_r8, .imm16 .ld_HL_d16, .plain .ld_atHLI_A, .plain .inc_HL, .plain .inc_H, .plain .dec_H,
   .imm8 .ld_H_d8, .plain .daa, .imm8 .jr_Z_r8, .plain .add_HL_HL, .plain .ld_A_atHLI, .plain .dec_HL, .plain .inc_L,
   .plain .dec_L, .imm8 .ld_L_d8, .plain .cpl]

/-- Row 3x of the primary map (R310). -/
def primaryRow3 : List Template :=
  [.imm8 .jr_NC_r8, .imm16 .ld_SP_d16, .plain .ld_atHLD_A, .plain .inc_SP, .plain .inc_atHL, .plain .dec_atHL,
   .imm8 .ld_atHL_d8, .plain .scf, .imm8 .jr_C_r8, .plain .add_HL_SP, .plain .ld_A_atHLD, .plain .dec_SP,
   .plain .inc_A, .plain .dec_A, .imm8 .ld_A_d8, .plain .ccf]

/-- Row 4x of the primary map (R310). -/
def primaryRow4 : List Template :=
  [.plain .ld_B_B, .plain .ld_B_C, .plain .ld_B_D, .plain .ld_B_E, .plain .ld_B_H, .plain .ld_B_L, .plain .ld_B_atHL,
   .plain .ld_B_A, .plain .ld_C_B, .plain .ld_C_C, .plain .ld_C_D, .plain .ld_C_E, .plain .ld_C_H, .plain .ld_C_L,
   .plain .ld_C_atHL, .plain .ld_C_A]

/-- Row 5x of the primary map (R310). -/
def primaryRow5 : List Template :=
  [.plain .ld_D_B, .plain .ld_D_C, .plain .ld_D_D, .plain .ld_D_E, .plain .ld_D_H, .plain .ld_D_L, .plain .ld_D_atHL,
   .plain .ld_D_A, .plain .ld_E_B, .plain .ld_E_C, .plain .ld_E_D, .plain .ld_E_E, .plain .ld_E_H, .plain .ld_E_L,
   .plain .ld_E_atHL, .plain .ld_E_A]

/-- Row 6x of the primary map (R310). -/
def primaryRow6 : List Template :=
  [.plain .ld_H_B, .plain .ld_H_C, .plain .ld_H_D, .plain .ld_H_E, .plain .ld_H_H, .plain .ld_H_L, .plain .ld_H_atHL,
   .plain .ld_H_A, .plain .ld_L_B, .plain .ld_L_C, .plain .ld_L_D, .plain .ld_L_E, .plain .ld_L_H, .plain .ld_L_L,
   .plain .ld_L_atHL, .plain .ld_L_A]

/-- Row 7x of the primary map (R310). -/
def primaryRow7 : List Template :=
  [.plain .ld_atHL_B, .plain .ld_atHL_C, .plain .ld_atHL_D, .plain .ld_atHL_E, .plain .ld_atHL_H, .plain .ld_atHL_L,
   .plain .halt, .plain .ld_atHL_A, .plain .ld_A_B, .plain .ld_A_C, .plain .ld_A_D, .plain .ld_A_E, .plain .ld_A_H,
   .plain .ld_A_L, .plain .ld_A_atHL, .plain .ld_A_A]

/-- Row 8x of the primary map (R310). -/
def primaryRow8 : List Template :=
  [.plain .add_A_B, .plain .add_A_C, .plain .add_A_D, .plain .add_A_E, .plain .add_A_H, .plain .add_A_L,
   .plain .add_A_atHL, .plain .add_A_A, .plain .adc_A_B, .plain .adc_A_C, .plain .adc_A_D, .plain .adc_A_E,
   .plain .adc_A_H, .plain .adc_A_L, .plain .adc_A_atHL, .plain .adc_A_A]

/-- Row 9x of the primary map (R310). -/
def primaryRow9 : List Template :=
  [.plain .sub_B, .plain .sub_C, .plain .sub_D, .plain .sub_E, .plain .sub_H, .plain .sub_L, .plain .sub_atHL,
   .plain .sub_A, .plain .sbc_A_B, .plain .sbc_A_C, .plain .sbc_A_D, .plain .sbc_A_E, .plain .sbc_A_H,
   .plain .sbc_A_L, .plain .sbc_A_atHL, .plain .sbc_A_A]

/-- Row Ax of the primary map (R310). -/
def primaryRowA : List Template :=
  [.plain .and_B, .plain .and_C, .plain .and_D, .plain .and_E, .plain .and_H, .plain .and_L, .plain .and_atHL,
   .plain .and_A, .plain .xor_B, .plain .xor_C, .plain .xor_D, .plain .xor_E, .plain .xor_H, .plain .xor_L,
   .plain .xor_atHL, .plain .xor_A]

/-- Row Bx of the primary map (R310). -/
def primaryRowB : List Template :=
  [.plain .or_B, .plain .or_C, .plain .or_D, .plain .or_E, .plain .or_H, .plain .or_L, .plain .or_atHL, .plain .or_A,
   .plain .cp_B, .plain .cp_C, .plain .cp_D, .plain .cp_E, .plain .cp_H, .plain .cp_L, .plain .cp_atHL, .plain .cp_A]

/-- Row Cx of the primary map (R310). -/
def primaryRowC : List Template :=
  [.plain .ret_NZ, .plain .pop_BC, .imm16 .jp_NZ_a16, .imm16 .jp_a16, .imm16 .call_NZ_a16, .plain .push_BC,
   .imm8 .add_A_d8, .plain .rst_00h, .plain .ret_Z, .plain .ret, .imm16 .jp_Z_a16, .cb, .imm16 .call_Z_a16,
   .imm16 .call_a16, .imm8 .adc_A_d8, .plain .rst_08h]

/-- Row Dx of the primary map (R310). -/
def primaryRowD : List Template :=
  [.plain .ret_NC, .plain .pop_DE, .imm16 .jp_NC_a16, .plain .undefined_D3, .imm16 .call_NC_a16, .plain .push_DE,
   .imm8 .sub_d8, .plain .rst_10h, .plain .ret_C, .plain .reti, .imm16 .jp_C_a16, .plain .undefined_DB,
   .imm16 .call_C_a16, .plain .undefined_DD, .imm8 .sbc_A_d8, .plain .rst_18h]

/-- Row Ex of the primary map (R310). -/
def primaryRowE : List Template :=
  [.imm8 .ldh_atA8_A, .plain .pop_HL, .plain .ld_atC_A, .plain .undefined_E3, .plain .undefined_E4, .plain .push_HL,
   .imm8 .and_d8, .plain .rst_20h, .imm8 .add_SP_r8, .plain .jp_HL, .imm16 .ld_atA16_A, .plain .undefined_EB,
   .plain .undefined_EC, .plain .undefined_ED, .imm8 .xor_d8, .plain .rst_28h]

/-- Row Fx of the primary map (R310). -/
def primaryRowF : List Template :=
  [.imm8 .ldh_A_atA8, .plain .pop_AF, .plain .ld_A_atC, .plain .di, .plain .undefined_F4, .plain .push_AF,
   .imm8 .or_d8, .plain .rst_30h, .imm8 .ld_HL_SPr8, .plain .ld_SP_HL, .imm16 .ld_A_atA16, .plain .ei,
   .plain .undefined_FC, .plain .undefined_FD, .imm8 .cp_d8, .plain .rst_38h]

/-- The row of the primary map for a high nibble (R310). -/
def primaryRow (hi : Nat) : List Template :=
  match hi with
  | 0 => primaryRow0
  | 1 => primaryRow1
  | 2 => primaryRow2
  | 3 => primaryRow3
  | 4 => primaryRow4
  | 5 => primaryRow5
  | 6 => primaryRow6
  | 7 => primaryRow7
  | 8 => primaryRow8
  | 9 => primaryRow9
  | 10 => primaryRowA
  | 11 => primaryRowB
  | 12 => primaryRowC
  | 13 => primaryRowD
  | 14 => primaryRowE
  | _ => primaryRowF

/-- Row 0x of the CB map (R311). -/
def cbRow0 : List Instr :=
  [.rlc_B, .rlc_C, .rlc_D, .rlc_E, .rlc_H, .rlc_L, .rlc_atHL, .rlc_A, .rrc_B, .rrc_C, .rrc_D, .rrc_E, .rrc_H, .rrc_L,
   .rrc_atHL, .rrc_A]

/-- Row 1x of the CB map (R311). -/
def cbRow1 : List Instr :=
  [.rl_B, .rl_C, .rl_D, .rl_E, .rl_H, .rl_L, .rl_atHL, .rl_A, .rr_B, .rr_C, .rr_D, .rr_E, .rr_H, .rr_L, .rr_atHL,
   .rr_A]

/-- Row 2x of the CB map (R311). -/
def cbRow2 : List Instr :=
  [.sla_B, .sla_C, .sla_D, .sla_E, .sla_H, .sla_L, .sla_atHL, .sla_A, .sra_B, .sra_C, .sra_D, .sra_E, .sra_H, .sra_L,
   .sra_atHL, .sra_A]

/-- Row 3x of the CB map (R311). -/
def cbRow3 : List Instr :=
  [.swap_B, .swap_C, .swap_D, .swap_E, .swap_H, .swap_L, .swap_atHL, .swap_A, .srl_B, .srl_C, .srl_D, .srl_E, .srl_H,
   .srl_L, .srl_atHL, .srl_A]

/-- Row 4x of the CB map (R311). -/
def cbRow4 : List Instr :=
  [.bit_0_B, .bit_0_C, .bit_0_D, .bit_0_E, .bit_0_H, .bit_0_L, .bit_0_atHL, .bit_0_A, .bit_1_B, .bit_1_C, .bit_1_D,
   .bit_1_E, .bit_1_H, .bit_1_L, .bit_1_atHL, .bit_1_A]

/-- Row 5x of the CB map (R311). -/
def cbRow5 : List Instr :=
  [.bit_2_B, .bit_2_C, .bit_2_D, .bit_2_E, .bit_2_H, .bit_2_L, .bit_2_atHL, .bit_2_A, .bit_3_B, .bit_3_C, .bit_3_D,
   .bit_3_E, .bit_3_H, .bit_3_L, .bit_3_atHL, .bit_3_A]

/-- Row 6x of the CB map (R311). -/
def cbRow6 : List Instr :=
  [.bit_4_B, .bit_4_C, .bit_4_D, .bit_4_E, .bit_4_H, .bit_4_L, .bit_4_atHL, .bit_4_A, .bit_5_B, .bit_5_C, .bit_5_D,
   .bit_5_E, .bit_5_H, .bit_5_L, .bit_5_atHL, .bit_5_A]

/-- Row 7x of the CB map (R311). -/
def cbRow7 : List Instr :=
  [.bit_6_B, .bit_6_C, .bit_6_D, .bit_6_E, .bit_6_H, .bit_6_L, .bit_6_atHL, .bit_6_A, .bit_7_B, .bit_7_C, .bit_7_D,
   .bit_7_E, .bit_7_H, .bit_7_L, .bit_7_atHL, .bit_7_A]

/-- Row 8x of the CB map (R311). -/
def cbRow8 : List Instr :=
  [.res_0_B, .res_0_C, .res_0_D, .res_0_E, .res_0_H, .res_0_L, .res_0_atHL, .res_0_A, .res_1_B, .res_1_C, .res_1_D,
   .res_1_E, .res_1_H, .res_1_L, .res_1_atHL, .res_1_A]

/-- Row 9x of the CB map (R311). -/
def cbRow9 : List Instr :=
  [.res_2_B, .res_2_C, .res_2_D, .res_2_E, .res_2_H, .res_2_L, .res_2_atHL, .res_2_A, .res_3_B, .res_3_C, .res_3_D,
   .res_3_E, .res_3_H, .res_3_L, .res_3_atHL, .res_3_A]

/-- Row Ax of the CB map (R311). -/
def cbRowA : List Instr :=
  [.res_4_B, .res_4_C, .res_4_D, .res_4_E, .res_4_H, .res_4_L, .res_4_atHL, .res_4_A, .res_5_B, .res_5_C, .res_5_D,
   .res_5_E, .res_5_H, .res_5_L, .res_5_atHL, .res_5_A]

/-- Row Bx of the CB map (R311). -/
def cbRowB : List Instr :=
  [.res_6_B, .res_6_C, .res_6_D, .res_6_E, .res_6_H, .res_6_L, .res_6_atHL, .res_6_A, .res_7_B, .res_7_C, .res_7_D,
   .res_7_E, .res_7_H, .res_7_L, .res_7_atHL, .res_7_A]

/-- Row Cx of the CB map (R311). -/
def cbRowC : List Instr :=
  [.set_0_B, .set_0_C, .set_0_D, .set_0_E, .set_0_H, .set_0_L, .set_0_atHL, .set_0_A, .set_1_B, .set_1_C, .set_1_D,
   .set_1_E, .set_1_H, .set_1_L, .set_1_atHL, .set_1_A]

/-- Row Dx of the CB map (R311). -/
def cbRowD : List Instr :=
  [.set_2_B, .set_2_C, .set_2_D, .set_2_E, .set_2_H, .set_2_L, .set_2_atHL, .set_2_A, .set_3_B, .set_3_C, .set_3_D,
   .set_3_E, .set_3_H, .set_3_L, .set_3_atHL, .set_3_A]

/-- Row Ex of the CB map (R311). -/
def cbRowE : List Instr :=
  [.set_4_B, .set_4_C, .set_4_D, .set_4_E, .set_4_H, .set_4_L, .set_4_atHL, .set_4_A, .set_5_B, .set_5_C, .set_5_D,
   .set_5_E, .set_5_H, .set_5_L, .set_5_atHL, .set_5_A]

/-- Row Fx of the CB map (R311). -/
def cbRowF : List Instr :=
  [.set_6_B, .set_6_C, .set_6_D, .set_6_E, .set_6_H, .set_6_L, .set_6_atHL, .set_6_A, .set_7_B, .set_7_C, .set_7_D,
   .set_7_E, .set_7_H, .set_7_L, .set_7_atHL, .set_7_A]

/-- The row of the CB map for a high nibble (R311). -/
def cbRow (hi : Nat) : List Instr :=
  match hi with
  | 0 => cbRow0
  | 1 => cbRow1
  | 2 => cbRow2
  | 3 => cbRow3
  | 4 => cbRow4
  | 5 => cbRow5
  | 6 => cbRow6
  | 7 => cbRow7
  | 8 => cbRow8
  | 9 => cbRow9
  | 10 => cbRowA
  | 11 => cbRowB
  | 12 => cbRowC
  | 13 => cbRowD
  | 14 => cbRowE
  | _ => cbRowF

theorem primaryRow_length (hi : Nat) : (primaryRow hi).length = 16 := by
  unfold primaryRow; split <;> rfl

theorem cbRow_length (hi : Nat) : (cbRow hi).length = 16 := by
  unfold cbRow; split <;> rfl

/-- `PRIMARY[op]` (R310): row op[7:4], column op[3:0]. -/
def template (op : Byte) : Template :=
  (primaryRow (op.toNat / 16)).get ⟨op.toNat % 16, by rw [primaryRow_length]; omega⟩

/-- `CB[op2]` (R311): row op2[7:4], column op2[3:0]. -/
def cbInstr (op2 : Byte) : Instr :=
  (cbRow (op2.toNat / 16)).get ⟨op2.toNat % 16, by rw [cbRow_length]; omega⟩

/-- Why no instruction can be read: the bytes end inside it. (An undefined opcode is read, as its own constructor.) -/
inductive DecodeError where
  | truncated
  deriving DecidableEq, Repr

/-- Reads one instruction from the front of `bytes`; answers it with the bytes left over. Immediates are
little-endian (R205, R308). Total: any list of bytes gives an instruction or `truncated`. -/
def decode (bytes : List Byte) : Except DecodeError (Instr × List Byte) :=
  match bytes with
  | [] => .error .truncated
  | op :: rest =>
    match template op, rest with
    | .plain i, r => .ok (i, r)
    | .imm8 f, v :: r => .ok (f v, r)
    | .imm16 f, lo :: hi :: r => .ok (f (hi ++ lo), r)
    | .cb, op2 :: r => .ok (cbInstr op2, r)
    | _, _ => .error .truncated

/-- The length of an instruction from its first byte alone (R300, R314). -/
def lengthOf (op : Byte) : Nat :=
  match template op with
  | .plain _ => 1
  | .imm8 _ => 2
  | .imm16 _ => 3
  | .cb => 2

/-- Low byte of a 16-bit immediate, the one stored first (R308). -/
def immLo (v : Word) : Byte := v.extractLsb' 0 8

/-- High byte of a 16-bit immediate (R308). -/
def immHi (v : Word) : Byte := v.extractLsb' 8 8

/-- The bytes of an instruction at increasing addresses, from the encodings of the instruction rules. -/
def encode (i : Instr) : List Byte :=
  match i with
  | .nop => [0x00]
  | .ld_BC_d16 v => [0x01, immLo v, immHi v]
  | .ld_atBC_A => [0x02]
  | .inc_BC => [0x03]
  | .inc_B => [0x04]
  | .dec_B => [0x05]
  | .ld_B_d8 v => [0x06, v]
  | .rlca => [0x07]
  | .ld_atA16_SP v => [0x08, immLo v, immHi v]
  | .add_HL_BC => [0x09]
  | .ld_A_atBC => [0x0A]
  | .dec_BC => [0x0B]
  | .inc_C => [0x0C]
  | .dec_C => [0x0D]
  | .ld_C_d8 v => [0x0E, v]
  | .rrca => [0x0F]
  | .stop v => [0x10, v]
  | .ld_DE_d16 v => [0x11, immLo v, immHi v]
  | .ld_atDE_A => [0x12]
  | .inc_DE => [0x13]
  | .inc_D => [0x14]
  | .dec_D => [0x15]
  | .ld_D_d8 v => [0x16, v]
  | .rla => [0x17]
  | .jr_r8 v => [0x18, v]
  | .add_HL_DE => [0x19]
  | .ld_A_atDE => [0x1A]
  | .dec_DE => [0x1B]
  | .inc_E => [0x1C]
  | .dec_E => [0x1D]
  | .ld_E_d8 v => [0x1E, v]
  | .rra => [0x1F]
  | .jr_NZ_r8 v => [0x20, v]
  | .ld_HL_d16 v => [0x21, immLo v, immHi v]
  | .ld_atHLI_A => [0x22]
  | .inc_HL => [0x23]
  | .inc_H => [0x24]
  | .dec_H => [0x25]
  | .ld_H_d8 v => [0x26, v]
  | .daa => [0x27]
  | .jr_Z_r8 v => [0x28, v]
  | .add_HL_HL => [0x29]
  | .ld_A_atHLI => [0x2A]
  | .dec_HL => [0x2B]
  | .inc_L => [0x2C]
  | .dec_L => [0x2D]
  | .ld_L_d8 v => [0x2E, v]
  | .cpl => [0x2F]
  | .jr_NC_r8 v => [0x30, v]
  | .ld_SP_d16 v => [0x31, immLo v, immHi v]
  | .ld_atHLD_A => [0x32]
  | .inc_SP => [0x33]
  | .inc_atHL => [0x34]
  | .dec_atHL => [0x35]
  | .ld_atHL_d8 v => [0x36, v]
  | .scf => [0x37]
  | .jr_C_r8 v => [0x38, v]
  | .add_HL_SP => [0x39]
  | .ld_A_atHLD => [0x3A]
  | .dec_SP => [0x3B]
  | .inc_A => [0x3C]
  | .dec_A => [0x3D]
  | .ld_A_d8 v => [0x3E, v]
  | .ccf => [0x3F]
  | .ld_B_B => [0x40]
  | .ld_B_C => [0x41]
  | .ld_B_D => [0x42]
  | .ld_B_E => [0x43]
  | .ld_B_H => [0x44]
  | .ld_B_L => [0x45]
  | .ld_B_atHL => [0x46]
  | .ld_B_A => [0x47]
  | .ld_C_B => [0x48]
  | .ld_C_C => [0x49]
  | .ld_C_D => [0x4A]
  | .ld_C_E => [0x4B]
  | .ld_C_H => [0x4C]
  | .ld_C_L => [0x4D]
  | .ld_C_atHL => [0x4E]
  | .ld_C_A => [0x4F]
  | .ld_D_B => [0x50]
  | .ld_D_C => [0x51]
  | .ld_D_D => [0x52]
  | .ld_D_E => [0x53]
  | .ld_D_H => [0x54]
  | .ld_D_L => [0x55]
  | .ld_D_atHL => [0x56]
  | .ld_D_A => [0x57]
  | .ld_E_B => [0x58]
  | .ld_E_C => [0x59]
  | .ld_E_D => [0x5A]
  | .ld_E_E => [0x5B]
  | .ld_E_H => [0x5C]
  | .ld_E_L => [0x5D]
  | .ld_E_atHL => [0x5E]
  | .ld_E_A => [0x5F]
  | .ld_H_B => [0x60]
  | .ld_H_C => [0x61]
  | .ld_H_D => [0x62]
  | .ld_H_E => [0x63]
  | .ld_H_H => [0x64]
  | .ld_H_L => [0x65]
  | .ld_H_atHL => [0x66]
  | .ld_H_A => [0x67]
  | .ld_L_B => [0x68]
  | .ld_L_C => [0x69]
  | .ld_L_D => [0x6A]
  | .ld_L_E => [0x6B]
  | .ld_L_H => [0x6C]
  | .ld_L_L => [0x6D]
  | .ld_L_atHL => [0x6E]
  | .ld_L_A => [0x6F]
  | .ld_atHL_B => [0x70]
  | .ld_atHL_C => [0x71]
  | .ld_atHL_D => [0x72]
  | .ld_atHL_E => [0x73]
  | .ld_atHL_H => [0x74]
  | .ld_atHL_L => [0x75]
  | .halt => [0x76]
  | .ld_atHL_A => [0x77]
  | .ld_A_B => [0x78]
  | .ld_A_C => [0x79]
  | .ld_A_D => [0x7A]
  | .ld_A_E => [0x7B]
  | .ld_A_H => [0x7C]
  | .ld_A_L => [0x7D]
  | .ld_A_atHL => [0x7E]
  | .ld_A_A => [0x7F]
  | .add_A_B => [0x80]
  | .add_A_C => [0x81]
  | .add_A_D => [0x82]
  | .add_A_E => [0x83]
  | .add_A_H => [0x84]
  | .add_A_L => [0x85]
  | .add_A_atHL => [0x86]
  | .add_A_A => [0x87]
  | .adc_A_B => [0x88]
  | .adc_A_C => [0x89]
  | .adc_A_D => [0x8A]
  | .adc_A_E => [0x8B]
  | .adc_A_H => [0x8C]
  | .adc_A_L => [0x8D]
  | .adc_A_atHL => [0x8E]
  | .adc_A_A => [0x8F]
  | .sub_B => [0x90]
  | .sub_C => [0x91]
  | .sub_D => [0x92]
  | .sub_E => [0x93]
  | .sub_H => [0x94]
  | .sub_L => [0x95]
  | .sub_atHL => [0x96]
  | .sub_A => [0x97]
  | .sbc_A_B => [0x98]
  | .sbc_A_C => [0x99]
  | .sbc_A_D => [0x9A]
  | .sbc_A_E => [0x9B]
  | .sbc_A_H => [0x9C]
  | .sbc_A_L => [0x9D]
  | .sbc_A_atHL => [0x9E]
  | .sbc_A_A => [0x9F]
  | .and_B => [0xA0]
  | .and_C => [0xA1]
  | .and_D => [0xA2]
  | .and_E => [0xA3]
  | .and_H => [0xA4]
  | .and_L => [0xA5]
  | .and_atHL => [0xA6]
  | .and_A => [0xA7]
  | .xor_B => [0xA8]
  | .xor_C => [0xA9]
  | .xor_D => [0xAA]
  | .xor_E => [0xAB]
  | .xor_H => [0xAC]
  | .xor_L => [0xAD]
  | .xor_atHL => [0xAE]
  | .xor_A => [0xAF]
  | .or_B => [0xB0]
  | .or_C => [0xB1]
  | .or_D => [0xB2]
  | .or_E => [0xB3]
  | .or_H => [0xB4]
  | .or_L => [0xB5]
  | .or_atHL => [0xB6]
  | .or_A => [0xB7]
  | .cp_B => [0xB8]
  | .cp_C => [0xB9]
  | .cp_D => [0xBA]
  | .cp_E => [0xBB]
  | .cp_H => [0xBC]
  | .cp_L => [0xBD]
  | .cp_atHL => [0xBE]
  | .cp_A => [0xBF]
  | .ret_NZ => [0xC0]
  | .pop_BC => [0xC1]
  | .jp_NZ_a16 v => [0xC2, immLo v, immHi v]
  | .jp_a16 v => [0xC3, immLo v, immHi v]
  | .call_NZ_a16 v => [0xC4, immLo v, immHi v]
  | .push_BC => [0xC5]
  | .add_A_d8 v => [0xC6, v]
  | .rst_00h => [0xC7]
  | .ret_Z => [0xC8]
  | .ret => [0xC9]
  | .jp_Z_a16 v => [0xCA, immLo v, immHi v]
  | .call_Z_a16 v => [0xCC, immLo v, immHi v]
  | .call_a16 v => [0xCD, immLo v, immHi v]
  | .adc_A_d8 v => [0xCE, v]
  | .rst_08h => [0xCF]
  | .ret_NC => [0xD0]
  | .pop_DE => [0xD1]
  | .jp_NC_a16 v => [0xD2, immLo v, immHi v]
  | .undefined_D3 => [0xD3]
  | .call_NC_a16 v => [0xD4, immLo v, immHi v]
  | .push_DE => [0xD5]
  | .sub_d8 v => [0xD6, v]
  | .rst_10h => [0xD7]
  | .ret_C => [0xD8]
  | .reti => [0xD9]
  | .jp_C_a16 v => [0xDA, immLo v, immHi v]
  | .undefined_DB => [0xDB]
  | .call_C_a16 v => [0xDC, immLo v, immHi v]
  | .undefined_DD => [0xDD]
  | .sbc_A_d8 v => [0xDE, v]
  | .rst_18h => [0xDF]
  | .ldh_atA8_A v => [0xE0, v]
  | .pop_HL => [0xE1]
  | .ld_atC_A => [0xE2]
  | .undefined_E3 => [0xE3]
  | .undefined_E4 => [0xE4]
  | .push_HL => [0xE5]
  | .and_d8 v => [0xE6, v]
  | .rst_20h => [0xE7]
  | .add_SP_r8 v => [0xE8, v]
  | .jp_HL => [0xE9]
  | .ld_atA16_A v => [0xEA, immLo v, immHi v]
  | .undefined_EB => [0xEB]
  | .undefined_EC => [0xEC]
  | .undefined_ED => [0xED]
  | .xor_d8 v => [0xEE, v]
  | .rst_28h => [0xEF]
  | .ldh_A_atA8 v => [0xF0, v]
  | .pop_AF => [0xF1]
  | .ld_A_atC => [0xF2]
  | .di => [0xF3]
  | .undefined_F4 => [0xF4]
  | .push_AF => [0xF5]
  | .or_d8 v => [0xF6, v]
  | .rst_30h => [0xF7]
  | .ld_HL_SPr8 v => [0xF8, v]
  | .ld_SP_HL => [0xF9]
  | .ld_A_atA16 v => [0xFA, immLo v, immHi v]
  | .ei => [0xFB]
  | .undefined_FC => [0xFC]
  | .undefined_FD => [0xFD]
  | .cp_d8 v => [0xFE, v]
  | .rst_38h => [0xFF]
  | .rlc_B => [0xCB, 0x00]
  | .rlc_C => [0xCB, 0x01]
  | .rlc_D => [0xCB, 0x02]
  | .rlc_E => [0xCB, 0x03]
  | .rlc_H => [0xCB, 0x04]
  | .rlc_L => [0xCB, 0x05]
  | .rlc_atHL => [0xCB, 0x06]
  | .rlc_A => [0xCB, 0x07]
  | .rrc_B => [0xCB, 0x08]
  | .rrc_C => [0xCB, 0x09]
  | .rrc_D => [0xCB, 0x0A]
  | .rrc_E => [0xCB, 0x0B]
  | .rrc_H => [0xCB, 0x0C]
  | .rrc_L => [0xCB, 0x0D]
  | .rrc_atHL => [0xCB, 0x0E]
  | .rrc_A => [0xCB, 0x0F]
  | .rl_B => [0xCB, 0x10]
  | .rl_C => [0xCB, 0x11]
  | .rl_D => [0xCB, 0x12]
  | .rl_E => [0xCB, 0x13]
  | .rl_H => [0xCB, 0x14]
  | .rl_L => [0xCB, 0x15]
  | .rl_atHL => [0xCB, 0x16]
  | .rl_A => [0xCB, 0x17]
  | .rr_B => [0xCB, 0x18]
  | .rr_C => [0xCB, 0x19]
  | .rr_D => [0xCB, 0x1A]
  | .rr_E => [0xCB, 0x1B]
  | .rr_H => [0xCB, 0x1C]
  | .rr_L => [0xCB, 0x1D]
  | .rr_atHL => [0xCB, 0x1E]
  | .rr_A => [0xCB, 0x1F]
  | .sla_B => [0xCB, 0x20]
  | .sla_C => [0xCB, 0x21]
  | .sla_D => [0xCB, 0x22]
  | .sla_E => [0xCB, 0x23]
  | .sla_H => [0xCB, 0x24]
  | .sla_L => [0xCB, 0x25]
  | .sla_atHL => [0xCB, 0x26]
  | .sla_A => [0xCB, 0x27]
  | .sra_B => [0xCB, 0x28]
  | .sra_C => [0xCB, 0x29]
  | .sra_D => [0xCB, 0x2A]
  | .sra_E => [0xCB, 0x2B]
  | .sra_H => [0xCB, 0x2C]
  | .sra_L => [0xCB, 0x2D]
  | .sra_atHL => [0xCB, 0x2E]
  | .sra_A => [0xCB, 0x2F]
  | .swap_B => [0xCB, 0x30]
  | .swap_C => [0xCB, 0x31]
  | .swap_D => [0xCB, 0x32]
  | .swap_E => [0xCB, 0x33]
  | .swap_H => [0xCB, 0x34]
  | .swap_L => [0xCB, 0x35]
  | .swap_atHL => [0xCB, 0x36]
  | .swap_A => [0xCB, 0x37]
  | .srl_B => [0xCB, 0x38]
  | .srl_C => [0xCB, 0x39]
  | .srl_D => [0xCB, 0x3A]
  | .srl_E => [0xCB, 0x3B]
  | .srl_H => [0xCB, 0x3C]
  | .srl_L => [0xCB, 0x3D]
  | .srl_atHL => [0xCB, 0x3E]
  | .srl_A => [0xCB, 0x3F]
  | .bit_0_B => [0xCB, 0x40]
  | .bit_0_C => [0xCB, 0x41]
  | .bit_0_D => [0xCB, 0x42]
  | .bit_0_E => [0xCB, 0x43]
  | .bit_0_H => [0xCB, 0x44]
  | .bit_0_L => [0xCB, 0x45]
  | .bit_0_atHL => [0xCB, 0x46]
  | .bit_0_A => [0xCB, 0x47]
  | .bit_1_B => [0xCB, 0x48]
  | .bit_1_C => [0xCB, 0x49]
  | .bit_1_D => [0xCB, 0x4A]
  | .bit_1_E => [0xCB, 0x4B]
  | .bit_1_H => [0xCB, 0x4C]
  | .bit_1_L => [0xCB, 0x4D]
  | .bit_1_atHL => [0xCB, 0x4E]
  | .bit_1_A => [0xCB, 0x4F]
  | .bit_2_B => [0xCB, 0x50]
  | .bit_2_C => [0xCB, 0x51]
  | .bit_2_D => [0xCB, 0x52]
  | .bit_2_E => [0xCB, 0x53]
  | .bit_2_H => [0xCB, 0x54]
  | .bit_2_L => [0xCB, 0x55]
  | .bit_2_atHL => [0xCB, 0x56]
  | .bit_2_A => [0xCB, 0x57]
  | .bit_3_B => [0xCB, 0x58]
  | .bit_3_C => [0xCB, 0x59]
  | .bit_3_D => [0xCB, 0x5A]
  | .bit_3_E => [0xCB, 0x5B]
  | .bit_3_H => [0xCB, 0x5C]
  | .bit_3_L => [0xCB, 0x5D]
  | .bit_3_atHL => [0xCB, 0x5E]
  | .bit_3_A => [0xCB, 0x5F]
  | .bit_4_B => [0xCB, 0x60]
  | .bit_4_C => [0xCB, 0x61]
  | .bit_4_D => [0xCB, 0x62]
  | .bit_4_E => [0xCB, 0x63]
  | .bit_4_H => [0xCB, 0x64]
  | .bit_4_L => [0xCB, 0x65]
  | .bit_4_atHL => [0xCB, 0x66]
  | .bit_4_A => [0xCB, 0x67]
  | .bit_5_B => [0xCB, 0x68]
  | .bit_5_C => [0xCB, 0x69]
  | .bit_5_D => [0xCB, 0x6A]
  | .bit_5_E => [0xCB, 0x6B]
  | .bit_5_H => [0xCB, 0x6C]
  | .bit_5_L => [0xCB, 0x6D]
  | .bit_5_atHL => [0xCB, 0x6E]
  | .bit_5_A => [0xCB, 0x6F]
  | .bit_6_B => [0xCB, 0x70]
  | .bit_6_C => [0xCB, 0x71]
  | .bit_6_D => [0xCB, 0x72]
  | .bit_6_E => [0xCB, 0x73]
  | .bit_6_H => [0xCB, 0x74]
  | .bit_6_L => [0xCB, 0x75]
  | .bit_6_atHL => [0xCB, 0x76]
  | .bit_6_A => [0xCB, 0x77]
  | .bit_7_B => [0xCB, 0x78]
  | .bit_7_C => [0xCB, 0x79]
  | .bit_7_D => [0xCB, 0x7A]
  | .bit_7_E => [0xCB, 0x7B]
  | .bit_7_H => [0xCB, 0x7C]
  | .bit_7_L => [0xCB, 0x7D]
  | .bit_7_atHL => [0xCB, 0x7E]
  | .bit_7_A => [0xCB, 0x7F]
  | .res_0_B => [0xCB, 0x80]
  | .res_0_C => [0xCB, 0x81]
  | .res_0_D => [0xCB, 0x82]
  | .res_0_E => [0xCB, 0x83]
  | .res_0_H => [0xCB, 0x84]
  | .res_0_L => [0xCB, 0x85]
  | .res_0_atHL => [0xCB, 0x86]
  | .res_0_A => [0xCB, 0x87]
  | .res_1_B => [0xCB, 0x88]
  | .res_1_C => [0xCB, 0x89]
  | .res_1_D => [0xCB, 0x8A]
  | .res_1_E => [0xCB, 0x8B]
  | .res_1_H => [0xCB, 0x8C]
  | .res_1_L => [0xCB, 0x8D]
  | .res_1_atHL => [0xCB, 0x8E]
  | .res_1_A => [0xCB, 0x8F]
  | .res_2_B => [0xCB, 0x90]
  | .res_2_C => [0xCB, 0x91]
  | .res_2_D => [0xCB, 0x92]
  | .res_2_E => [0xCB, 0x93]
  | .res_2_H => [0xCB, 0x94]
  | .res_2_L => [0xCB, 0x95]
  | .res_2_atHL => [0xCB, 0x96]
  | .res_2_A => [0xCB, 0x97]
  | .res_3_B => [0xCB, 0x98]
  | .res_3_C => [0xCB, 0x99]
  | .res_3_D => [0xCB, 0x9A]
  | .res_3_E => [0xCB, 0x9B]
  | .res_3_H => [0xCB, 0x9C]
  | .res_3_L => [0xCB, 0x9D]
  | .res_3_atHL => [0xCB, 0x9E]
  | .res_3_A => [0xCB, 0x9F]
  | .res_4_B => [0xCB, 0xA0]
  | .res_4_C => [0xCB, 0xA1]
  | .res_4_D => [0xCB, 0xA2]
  | .res_4_E => [0xCB, 0xA3]
  | .res_4_H => [0xCB, 0xA4]
  | .res_4_L => [0xCB, 0xA5]
  | .res_4_atHL => [0xCB, 0xA6]
  | .res_4_A => [0xCB, 0xA7]
  | .res_5_B => [0xCB, 0xA8]
  | .res_5_C => [0xCB, 0xA9]
  | .res_5_D => [0xCB, 0xAA]
  | .res_5_E => [0xCB, 0xAB]
  | .res_5_H => [0xCB, 0xAC]
  | .res_5_L => [0xCB, 0xAD]
  | .res_5_atHL => [0xCB, 0xAE]
  | .res_5_A => [0xCB, 0xAF]
  | .res_6_B => [0xCB, 0xB0]
  | .res_6_C => [0xCB, 0xB1]
  | .res_6_D => [0xCB, 0xB2]
  | .res_6_E => [0xCB, 0xB3]
  | .res_6_H => [0xCB, 0xB4]
  | .res_6_L => [0xCB, 0xB5]
  | .res_6_atHL => [0xCB, 0xB6]
  | .res_6_A => [0xCB, 0xB7]
  | .res_7_B => [0xCB, 0xB8]
  | .res_7_C => [0xCB, 0xB9]
  | .res_7_D => [0xCB, 0xBA]
  | .res_7_E => [0xCB, 0xBB]
  | .res_7_H => [0xCB, 0xBC]
  | .res_7_L => [0xCB, 0xBD]
  | .res_7_atHL => [0xCB, 0xBE]
  | .res_7_A => [0xCB, 0xBF]
  | .set_0_B => [0xCB, 0xC0]
  | .set_0_C => [0xCB, 0xC1]
  | .set_0_D => [0xCB, 0xC2]
  | .set_0_E => [0xCB, 0xC3]
  | .set_0_H => [0xCB, 0xC4]
  | .set_0_L => [0xCB, 0xC5]
  | .set_0_atHL => [0xCB, 0xC6]
  | .set_0_A => [0xCB, 0xC7]
  | .set_1_B => [0xCB, 0xC8]
  | .set_1_C => [0xCB, 0xC9]
  | .set_1_D => [0xCB, 0xCA]
  | .set_1_E => [0xCB, 0xCB]
  | .set_1_H => [0xCB, 0xCC]
  | .set_1_L => [0xCB, 0xCD]
  | .set_1_atHL => [0xCB, 0xCE]
  | .set_1_A => [0xCB, 0xCF]
  | .set_2_B => [0xCB, 0xD0]
  | .set_2_C => [0xCB, 0xD1]
  | .set_2_D => [0xCB, 0xD2]
  | .set_2_E => [0xCB, 0xD3]
  | .set_2_H => [0xCB, 0xD4]
  | .set_2_L => [0xCB, 0xD5]
  | .set_2_atHL => [0xCB, 0xD6]
  | .set_2_A => [0xCB, 0xD7]
  | .set_3_B => [0xCB, 0xD8]
  | .set_3_C => [0xCB, 0xD9]
  | .set_3_D => [0xCB, 0xDA]
  | .set_3_E => [0xCB, 0xDB]
  | .set_3_H => [0xCB, 0xDC]
  | .set_3_L => [0xCB, 0xDD]
  | .set_3_atHL => [0xCB, 0xDE]
  | .set_3_A => [0xCB, 0xDF]
  | .set_4_B => [0xCB, 0xE0]
  | .set_4_C => [0xCB, 0xE1]
  | .set_4_D => [0xCB, 0xE2]
  | .set_4_E => [0xCB, 0xE3]
  | .set_4_H => [0xCB, 0xE4]
  | .set_4_L => [0xCB, 0xE5]
  | .set_4_atHL => [0xCB, 0xE6]
  | .set_4_A => [0xCB, 0xE7]
  | .set_5_B => [0xCB, 0xE8]
  | .set_5_C => [0xCB, 0xE9]
  | .set_5_D => [0xCB, 0xEA]
  | .set_5_E => [0xCB, 0xEB]
  | .set_5_H => [0xCB, 0xEC]
  | .set_5_L => [0xCB, 0xED]
  | .set_5_atHL => [0xCB, 0xEE]
  | .set_5_A => [0xCB, 0xEF]
  | .set_6_B => [0xCB, 0xF0]
  | .set_6_C => [0xCB, 0xF1]
  | .set_6_D => [0xCB, 0xF2]
  | .set_6_E => [0xCB, 0xF3]
  | .set_6_H => [0xCB, 0xF4]
  | .set_6_L => [0xCB, 0xF5]
  | .set_6_atHL => [0xCB, 0xF6]
  | .set_6_A => [0xCB, 0xF7]
  | .set_7_B => [0xCB, 0xF8]
  | .set_7_C => [0xCB, 0xF9]
  | .set_7_D => [0xCB, 0xFA]
  | .set_7_E => [0xCB, 0xFB]
  | .set_7_H => [0xCB, 0xFC]
  | .set_7_L => [0xCB, 0xFD]
  | .set_7_atHL => [0xCB, 0xFE]
  | .set_7_A => [0xCB, 0xFF]

/-- The bytes of a word numbered as spec/opcode_table.json numbers an instruction's bits, padded with zeros to the
longest instruction (three bytes). The table gives a primary row its first byte alone, as bits 7-0; a CB row is ONE
16-bit number with the byte 0xCB in bits 15-8 and the second opcode byte in bits 7-0, and 0xCB is the byte stored
first (R300; log 11). Any other word is read with its first byte in bits 7-0. -/
def tableBytes (nbits w : Nat) : List Byte :=
  let v := w % 2 ^ nbits
  let b0 := BitVec.ofNat 8 v
  let b1 := BitVec.ofNat 8 (v / 256)
  let b2 := BitVec.ofNat 8 (v / 65536)
  if nbits = 16 ∧ b1 = 0xCB ∧ b0 ≠ 0xCB then [0xCB, b0, 0] else [b0, b1, b2]

/-- The instruction the decoder reads from a table word (`none` where it refuses). -/
def decodeTableWord (nbits w : Nat) : Option Instr :=
  match decode (tableBytes nbits w) with
  | .ok (i, _) => some i
  | .error _ => none

end Sys2Proof
end

