-- ==== Sys2Proof/Machine/Bits.lean ====
section
/-! DEFINITION. The bit-field, byte-order and extension helpers of 00_scope.md R7. -/

namespace Sys2Proof.Machine

/-- `v[15:8]`. -/
def hiByte (v : Word) : Byte := v.extractLsb' 8 8

/-- `v[7:0]`. -/
def loByte (v : Word) : Byte := v.extractLsb' 0 8

/-- `hi:lo` of two bytes. -/
def joinBytes (hi lo : Byte) : Word := hi ++ lo

/-- `sext_16`. -/
def sext16 (v : Byte) : Word := v.signExtend 16

/-- `zext_16`. -/
def zext16 (v : Byte) : Word := v.setWidth 16

/-- `bool(x)` as a number. -/
def bit (b : Bool) : Nat := if b then 1 else 0

/-- The byte whose bit `k` alone is set, `1 << k`. -/
def bitMask (k : Nat) : Byte := 1#8 <<< k

end Sys2Proof.Machine
end

