-- ==== Sys2Proof/Config.lean ====
section
/-! DEFINITION. The implementation parameters of 00_scope.md R6 that are fixed for the machine, and the one OPEN
parameter that never enters the state: the host's colour palette. (`BOOT_ROM` and `SCHEDULE` are held in State.) -/

namespace Sys2Proof.Config

/-- `HIST_CAP`, the capacity of the PC history ring (R6, R106). -/
def histCap : Nat := 5

/-- Bytes of WRAM, seen at 0xC000-0xDFFF (R110). -/
def wramSize : Nat := 0x2000

/-- Bytes of HRAM, seen at 0xFF80-0xFFFE (R111). -/
def hramSize : Nat := 0x7F

/-- Bytes of VRAM, seen at 0x8000-0x9FFF (R112). -/
def vramSize : Nat := 0x2000

/-- Bytes of the boot ROM (R115). -/
def bootRomSize : Nat := 0x100

/-- Bytes of one ROM bank, 16 KiB (R232). -/
def romBankSize : Nat := 0x4000

/-- Bytes of one ERAM bank, 8 KiB (R233). -/
def ramBankSize : Nat := 0x2000

/-- `LINE_DOTS` (R6, R830). -/
def lineDots : Nat := 456

/-- `OAM_DOTS` (R6, R830). -/
def oamDots : Nat := 80

/-- `DRAW_DOTS` (R6, R830). -/
def drawDots : Nat := 172

/-- Lines of a frame (R6, R830). -/
def frameLines : Nat := 154

/-- Lines with pixels (R6, R830). -/
def visibleLines : Nat := 144

/-- Pixels of a visible line (R6, R124). -/
def screenWidth : Nat := 160

/-- One colour component: a number of [0, 1] (R6, R832), held exactly (log 5). The field defaults only show that the
type has a value. -/
structure Component where
  value     : Rat := 0
  nonneg    : 0 ≤ value := by decide
  atMostOne : value ≤ 1 := by decide
  deriving DecidableEq, Repr, Inhabited

/-- One colour of the host's palette: the triple of R832. -/
structure Rgb where
  red   : Component
  green : Component
  blue  : Component
  deriving DecidableEq, Repr, Inhabited

/-- `HOST_PALETTE` (R6, R832, D16): OPEN, four triples with components in [0, 1]. Uninterpreted, so that a claim about
displayed colours holds for every palette (log 5). -/
opaque hostPalette : BitVec 2 → Rgb

end Sys2Proof.Config
end

