-- ==== Sys2Proof/Machine/State.lean ====
section
/-! DEFINITION. Every piece of state of the SM83 core (10_state.md), as plain data; the updates of one field; the reset
state (70_reset_and_hazards.md R900); and the reasons a step can stop. INVENTORY.md lists each field with its rule. -/

namespace Sys2Proof.Machine

/-! ## Memories -/

/-- A byte array of the spec, as (offset, byte) pairs in ONE canonical form (`Memory.wf`): offsets strictly rising, no
entry equal to `Memory.unlisted`. -/
abbrev Memory := List Host.Cell

/-- What an offset that is not listed reads as: 0x00, the reset contents of WRAM, HRAM, VRAM and ERAM (R900). For the
ROM and the boot ROM it is only how zero bytes are written down (log 7). -/
def Memory.unlisted : Byte := 0x00

/-- The canonical form of a memory. -/
abbrev Memory.wf (m : Memory) : Prop :=
  m.Pairwise (fun x y => x.1 < y.1) ∧ ∀ c ∈ m, c.2 ≠ Memory.unlisted

/-- The framebuffer (R124): (cell index, slot) pairs, indices `160 * y + x` strictly rising; a cell that is not listed
is `unwritten`. -/
abbrev Framebuffer := List (Nat × BitVec 2)

/-- The canonical form of the framebuffer. -/
abbrev Framebuffer.wf (fb : Framebuffer) : Prop := fb.Pairwise fun x y => x.1 < y.1

/-! ## CPU -/

/-- The register file (R100 to R104). `f` is stored whole; its bits 3-0 are hardwired to zero by the one operation
that writes F (`Regs.setF`) and the one that reads it (`Regs.readF`). -/
structure Regs where
  a  : Byte
  f  : Byte
  b  : Byte
  c  : Byte
  d  : Byte
  e  : Byte
  h  : Byte
  l  : Byte
  sp : Word
  pc : Word
  deriving DecidableEq, Repr

/-- The fault kinds of R800. -/
inductive FaultKind where
  | outOfBounds
  | invalidCpuInstruction
  | bootRomWrite
  | badValue
  deriving DecidableEq, Repr

/-- The numeric codes of the fault kinds (R800). -/
def FaultKind.code : FaultKind → Nat
  | .outOfBounds => 1
  | .invalidCpuInstruction => 2
  | .bootRomWrite => 3
  | .badValue => 4

/-- A fault as it is raised: `Fault(kind, info)` of R800. -/
structure Trap where
  kind : FaultKind
  info : Word
  deriving DecidableEq, Repr

/-- The machine status (R107). -/
inductive Status where
  | running
  | faulted (t : Trap)
  deriving DecidableEq, Repr

/-! ## Cartridge -/

/-- The mapper variant of a header (R117). -/
inductive Variant where
  | noMbc | mbc1 | mbc3
  deriving DecidableEq, Repr

/-- The cartridge header (R116, R230): parsed once, immutable after load. Bank counts are of 16 KiB ROM banks and
8 KiB RAM banks. -/
structure Header where
  title          : List Byte
  variant        : Variant
  romBanks       : Nat
  ramBanks       : Nat
  battery        : Bool
  headerChecksum : Byte
  globalChecksum : Word
  deriving DecidableEq, Repr

/-- Mbc1 state (R118). `advanced` is the 1-bit `mode` (1 = advanced). -/
structure Mbc1 where
  romBank       : BitVec 5
  secondaryBank : BitVec 2
  advanced      : Bool
  ramEnable     : Bool
  deriving DecidableEq, Repr

/-- The five RTC bytes (R119). -/
structure Rtc where
  s  : Byte
  m  : Byte
  h  : Byte
  dl : Byte
  dh : Byte
  deriving DecidableEq, Repr

/-- Mbc3 state (R119): `rtc` is the live clock, `latched` the snapshot. -/
structure Mbc3 where
  romBank   : BitVec 7
  select    : Byte
  ramEnable : Bool
  rtc       : Rtc
  latched   : Rtc
  deriving DecidableEq, Repr

/-- The mapper's state: the registers of its variant (R117 to R119). -/
inductive Mapper where
  | noMbc
  | mbc1 (r : Mbc1)
  | mbc3 (r : Mbc3)
  deriving DecidableEq, Repr

/-- The variant whose registers a mapper holds. -/
def Mapper.variant : Mapper → Variant
  | .noMbc => .noMbc
  | .mbc1 _ => .mbc1
  | .mbc3 _ => .mbc3

/-- The loaded cartridge (R113, R114, R116 to R119). -/
structure Cartridge where
  header : Header
  rom    : Memory
  eram   : Memory
  mapper : Mapper
  deriving DecidableEq, Repr

/-- The ROM length in bytes (R232). -/
def Cartridge.romLen (c : Cartridge) : Nat := c.header.romBanks * Config.romBankSize

/-- The ERAM length in bytes (R233). -/
def Cartridge.eramLen (c : Cartridge) : Nat := c.header.ramBanks * Config.ramBankSize

/-! ## Devices -/

/-- Timer state (R120). -/
structure Timer where
  master : BitVec 32
  div    : Byte
  tima   : Byte
  tma    : Byte
  enable : Bool
  select : BitVec 2
  deriving DecidableEq, Repr

/-- PPU registers, position and framebuffer (R122 to R124). `statW` is `STAT_w`. -/
structure Ppu where
  lcdc  : Byte
  statW : Byte
  scy   : Byte
  scx   : Byte
  lyc   : Byte
  dma   : Byte
  bgp   : Byte
  obp0  : Byte
  obp1  : Byte
  wy    : Byte
  wx    : Byte
  line  : Nat
  dot   : Nat
  fb    : Framebuffer
  deriving DecidableEq, Repr

/-- Joypad state (R125): 1 = released. -/
structure Joypad where
  buttons : BitVec 4
  dpad    : BitVec 4
  sel     : BitVec 2
  deriving DecidableEq, Repr

/-! ## The host's driver (the model's own fields, log 2) -/

/-- A host input event: `set_input(btn)` or `clear_input(btn)` (R852, R905). -/
inductive InputEvent where
  | press (btn : Button)
  | release (btn : Button)
  deriving DecidableEq, Repr

/-- One action of the host's driver (R904), or one input event between actions (R905). -/
inductive Action where
  | cpu
  | timer (n : Nat)
  | ppu
  | input (e : InputEvent)
  deriving DecidableEq, Repr

/-- What runs when the host has no action pending (R904): a CPU step alone, or a round of the reference schedule.
`inputs` is the step-indexed input sequence (I13, R907): the events pending at the start of each coming round, none from
the round after the last. -/
inductive Driver where
  | host
  | reference (inputs : List (List InputEvent))
  deriving DecidableEq, Repr

/-! ## The state -/

/-- The whole machine. -/
structure State where
  regs     : Regs
  ime      : Bool
  history  : List Word
  status   : Status
  wram     : Memory
  hram     : Memory
  vram     : Memory
  bootRom  : Memory
  bootMode : Bool
  cart     : Cartridge
  ie       : Byte
  iflag    : Byte
  timer    : Timer
  ppu      : Ppu
  joypad   : Joypad
  queue    : List Action
  driver   : Driver
  deriving DecidableEq, Repr

/-! ## Updates of one field -/

/-- `s` with another register file. -/
def State.setRegs (s : State) (r : Regs) : State := { s with regs := r }
/-- `s` with another IME. -/
def State.setIme (s : State) (b : Bool) : State := { s with ime := b }
/-- `s` with another PC history. -/
def State.setHistory (s : State) (h : List Word) : State := { s with history := h }
/-- `s` with another machine status. -/
def State.setStatus (s : State) (x : Status) : State := { s with status := x }
/-- `s` with another WRAM. -/
def State.setWram (s : State) (m : Memory) : State := { s with wram := m }
/-- `s` with another HRAM. -/
def State.setHram (s : State) (m : Memory) : State := { s with hram := m }
/-- `s` with another VRAM. -/
def State.setVram (s : State) (m : Memory) : State := { s with vram := m }
/-- `s` with another boot ROM image. -/
def State.setBootRom (s : State) (m : Memory) : State := { s with bootRom := m }
/-- `s` with another boot-mode latch. -/
def State.setBootMode (s : State) (b : Bool) : State := { s with bootMode := b }
/-- `s` with another cartridge. -/
def State.setCart (s : State) (c : Cartridge) : State := { s with cart := c }
/-- `s` with another IE. -/
def State.setIe (s : State) (v : Byte) : State := { s with ie := v }
/-- `s` with another IF. -/
def State.setIf (s : State) (v : Byte) : State := { s with iflag := v }
/-- `s` with another timer. -/
def State.setTimer (s : State) (t : Timer) : State := { s with timer := t }
/-- `s` with another PPU. -/
def State.setPpu (s : State) (p : Ppu) : State := { s with ppu := p }
/-- `s` with another joypad. -/
def State.setJoypad (s : State) (j : Joypad) : State := { s with joypad := j }
/-- `s` with other pending actions. -/
def State.setQueue (s : State) (q : List Action) : State := { s with queue := q }
/-- `s` with another driver. -/
def State.setDriver (s : State) (d : Driver) : State := { s with driver := d }

/-! ## Stops -/

/-- Why a step stops. Raised by `step` alone, on a state whose status is `faulted`: "from then on no component steps"
(R801). The step that raises the fault answers the next state that R802 describes (log 1). All four are safe: the
hardware stops too. -/
inductive Fault where
  /-- An *OutOfBounds* fault has stopped the machine (R222, R800): `info` is the bus address. Safe. -/
  | outOfBounds (info : Word)
  /-- An undefined opcode has stopped the machine (R312, R800): `info` is the opcode byte. Safe. -/
  | invalidCpuInstruction (info : Word)
  /-- A write to the boot ROM has stopped the machine (R210, R800): `info` is the bus address. Safe. -/
  | bootRomWrite (info : Word)
  /-- *BadValue* (R800): no step raises it (R814), so only a state given with that status stops so. Safe. -/
  | badValue (info : Word)
  deriving DecidableEq, Repr

/-- Why the model has no meaning for an instruction. -/
inductive Refusal where
  /-- The instruction of that mnemonic has no meaning yet. Raised by no arm: every row is modelled. Safe. -/
  | notModelled (mnemonic : String)
  deriving DecidableEq, Repr

/-- The answer of a step, a meaning or an operation that ends one. -/
abbrev Out := Host.Outcome State Fault Refusal

/-! ## Reset -/

/-- The mapper registers after reset (R900). -/
def Mapper.reset : Variant → Mapper
  | .noMbc => .noMbc
  | .mbc1 => .mbc1 { romBank := 1, secondaryBank := 0, advanced := false, ramEnable := false }
  | .mbc3 => .mbc3
      { romBank := 1, select := 0, ramEnable := false, rtc := ⟨0, 0, 0, 0, 0⟩, latched := ⟨0, 0, 0, 0, 0⟩ }

/-- The timer after reset (R900). -/
def Timer.reset : Timer := { master := 0, div := 0, tima := 0, tma := 0, enable := false, select := 0 }

/-- The PPU after reset (R900): line 0, dot 0, every cell `unwritten`. -/
def Ppu.reset : Ppu :=
  { lcdc := 0, statW := 0, scy := 0, scx := 0, lyc := 0, dma := 0, bgp := 0, obp0 := 0, obp1 := 0, wy := 0, wx := 0,
    line := 0, dot := 0, fb := [] }

/-- The joypad after reset (R900): all released, neither group selected. -/
def Joypad.reset : Joypad := { buttons := 0xF, dpad := 0xF, sel := 0b11 }

/-- Reset of a machine whose loader accepted a file with header `h` and bytes `rom`, with boot ROM image `boot`
(R900). The pending actions are the model's own field (log 2). -/
def State.resetWith (h : Header) (rom boot : Memory) : State :=
  { regs := { a := 0, f := 0, b := 0, c := 0, d := 0, e := 0, h := 0, l := 0, sp := 0, pc := 0 }
    ime := false
    history := []
    status := .running
    wram := []
    hram := []
    vram := []
    bootRom := boot
    bootMode := true
    cart := { header := h, rom := rom, eram := [], mapper := Mapper.reset h.variant }
    ie := 0
    iflag := 0
    timer := Timer.reset
    ppu := Ppu.reset
    joypad := Joypad.reset
    queue := []
    driver := .host }

/-- The header of a file of 32 KiB zero bytes (R230 to R233): NoMbc, two ROM banks, no ERAM, no battery. -/
def Header.blank : Header :=
  { title := List.replicate 16 0, variant := .noMbc, romBanks := 2, ramBanks := 0, battery := false,
    headerChecksum := 0, globalChecksum := 0 }

/-- The machine right after reset (R900), with no program placed: the ROM file and the boot ROM image, which the spec
leaves to the host, hold only zero bytes (logs 3 and 4). -/
def State.reset : State := State.resetWith Header.blank [] []

end Sys2Proof.Machine
end

