-- ==== Sys2Proof/Machine/Joypad.lean ====
section
/-! DEFINITION. The joypad register and the host's button events (60_exceptions.md R850 to R852). -/

namespace Sys2Proof.Machine

/-- JOYP as read (R850): `sel[0]` is bit 4, `sel[1]` bit 5; a group is selected by 0. -/
def Joypad.read (j : Joypad) : Byte :=
  let n := 0xF#4
  let n := if j.sel.getLsbD 0 then n else n &&& j.dpad
  let n := if j.sel.getLsbD 1 then n else n &&& j.buttons
  0xC0 ||| (j.sel.setWidth 8 <<< 4) ||| n.setWidth 8

/-- JOYP as written (R851). -/
def Joypad.write (j : Joypad) (v : Byte) : Joypad := { j with sel := v.extractLsb' 4 2 }

/-- The button stands in the d-pad latch (R125). -/
def onDpad : Button → Bool
  | .right | .left | .up | .down => true
  | .a | .b | .select | .start => false

/-- The button's bit in its latch (R125: A 0, B 1, Start 2, Select 3; Right 0, Left 1, Up 2, Down 3). -/
def latchBit : Button → Nat
  | .right | .a => 0
  | .left | .b => 1
  | .up | .start => 2
  | .down | .select => 3

/-- `set_input(btn)`: clears the button's bit (R852). -/
def Joypad.press (j : Joypad) (btn : Button) : Joypad :=
  if onDpad btn then { j with dpad := j.dpad &&& ~~~(1#4 <<< latchBit btn) }
  else { j with buttons := j.buttons &&& ~~~(1#4 <<< latchBit btn) }

/-- `clear_input(btn)`: sets the button's bit (R852). -/
def Joypad.release (j : Joypad) (btn : Button) : Joypad :=
  if onDpad btn then { j with dpad := j.dpad ||| (1#4 <<< latchBit btn) }
  else { j with buttons := j.buttons ||| (1#4 <<< latchBit btn) }

/-- A host input event (R852). -/
def Joypad.input (j : Joypad) : InputEvent → Joypad
  | .press btn => j.press btn
  | .release btn => j.release btn

/-- `apply pending host input events` (R904): the events in order, oldest first. -/
def State.applyInputs (s : State) (es : List InputEvent) : State := s.setJoypad (es.foldl Joypad.input s.joypad)

end Sys2Proof.Machine
end

