-- ==== Sys2Proof/Machine/Memory.lean ====
section
/-! DEFINITION. Reading and writing one byte of a memory array, and one cell of the framebuffer. Both writes keep the
canonical form. -/

namespace Sys2Proof.Machine

/-- The byte at an offset. -/
def Memory.read : Memory → Nat → Byte
  | [], _ => Memory.unlisted
  | (k, v) :: m, i => if i = k then v else if i < k then Memory.unlisted else Memory.read m i

/-- `m` with an entry for offset `i` in front, unless `v` is what an unlisted offset reads as. -/
def Memory.cons (i : Nat) (v : Byte) (m : Memory) : Memory :=
  if v = Memory.unlisted then m else (i, v) :: m

/-- Stores a byte at an offset. -/
def Memory.write : Memory → Nat → Byte → Memory
  | [], i, v => Memory.cons i v []
  | (k, w) :: m, i, v =>
    if i < k then Memory.cons i v ((k, w) :: m)
    else if i = k then Memory.cons i v m
    else (k, w) :: Memory.write m i v

/-- The memory that holds a list of bytes from an offset on. -/
def Memory.ofBytes : Nat → List Byte → Memory
  | _, [] => []
  | i, v :: vs => Memory.cons i v (Memory.ofBytes (i + 1) vs)

/-- The cell at an index: `none` is `unwritten` (R124). -/
def Framebuffer.read : Framebuffer → Nat → Option (BitVec 2)
  | [], _ => none
  | (k, v) :: fb, i => if i = k then some v else if i < k then none else Framebuffer.read fb i

/-- Writes a cell. -/
def Framebuffer.write : Framebuffer → Nat → BitVec 2 → Framebuffer
  | [], i, v => [(i, v)]
  | (k, w) :: fb, i, v =>
    if i < k then (i, v) :: (k, w) :: fb
    else if i = k then (i, v) :: fb
    else (k, w) :: Framebuffer.write fb i v

end Sys2Proof.Machine
end

