-- ==== Sys2Proof/Machine/Mapper.lean ====
section
/-! DEFINITION. The cartridge mappers (20_memory.md R212 to R222): `read` and `write` for bus addresses 0x0000-0x7FFF and
0xA000-0xBFFF. Every computed offset is checked against the array's length; none is reduced modulo it (R222). -/

namespace Sys2Proof.Machine

/-- The out-of-bounds error of R222; `addr` is the bus address. -/
def outOfBounds (addr : Word) : Trap := { kind := .outOfBounds, info := addr }

/-- `ROM[off]`, bounds-checked (R222). -/
def Cartridge.romAt (c : Cartridge) (off : Nat) (addr : Word) : Except Trap Byte :=
  if off < c.romLen then .ok (c.rom.read off) else .error (outOfBounds addr)

/-- `ERAM[off]`, bounds-checked (R222). -/
def Cartridge.eramAt (c : Cartridge) (off : Nat) (addr : Word) : Except Trap Byte :=
  if off < c.eramLen then .ok (c.eram.read off) else .error (outOfBounds addr)

/-- `ERAM[off] <- v`, bounds-checked (R222). -/
def Cartridge.eramPut (c : Cartridge) (off : Nat) (v : Byte) (addr : Word) : Except Trap Cartridge :=
  if off < c.eramLen then .ok { c with eram := c.eram.write off v } else .error (outOfBounds addr)

/-! ## NoMbc -/

/-- NoMbc read (R213). -/
def noMbcRead (c : Cartridge) (addr : Word) : Except Trap Byte :=
  if addr.toNat < 0x8000 then c.romAt addr.toNat addr else c.eramAt (addr.toNat - 0xA000) addr

/-- NoMbc write (R214). -/
def noMbcWrite (c : Cartridge) (addr : Word) (v : Byte) : Except Trap Cartridge :=
  if addr.toNat < 0x8000 then .ok c else c.eramPut (addr.toNat - 0xA000) v addr

/-- The RAM-enable test shared by Mbc1 and Mbc3: low nibble 0xA (R215, R219). -/
def enablesRam (v : Byte) : Bool := decide (v &&& 0x0F = 0x0A)

/-! ## Mbc1 -/

/-- The ROM offset of an address in 0x0000-0x3FFF (R216). -/
def Mbc1.rom0Offset (r : Mbc1) (n : Nat) : Nat :=
  n + if r.advanced then Config.romBankSize * (r.secondaryBank.toNat <<< 5) else 0

/-- The ROM offset of an address in 0x4000-0x7FFF (R217). -/
def Mbc1.rom1Offset (r : Mbc1) (n : Nat) : Nat :=
  (n - 0x4000) + Config.romBankSize * ((r.secondaryBank.toNat <<< 5) ||| r.romBank.toNat)

/-- The ERAM offset of an address in 0xA000-0xBFFF (R215, R218). -/
def Mbc1.ramOffset (r : Mbc1) (n : Nat) : Nat :=
  (n - 0xA000) + if r.advanced then Config.ramBankSize * r.secondaryBank.toNat else 0

/-- Mbc1 read (R216, R217, R218). -/
def mbc1Read (c : Cartridge) (r : Mbc1) (addr : Word) : Except Trap Byte :=
  if addr.toNat < 0x4000 then c.romAt (r.rom0Offset addr.toNat) addr
  else if addr.toNat < 0x8000 then c.romAt (r.rom1Offset addr.toNat) addr
  else if r.ramEnable then c.eramAt (r.ramOffset addr.toNat) addr
  else .ok 0xFF

/-- The bank value stored for the 5 bits kept: 0 becomes 1 (R215). -/
def mbc1Bank (v : Byte) : BitVec 5 := if v.setWidth 5 = 0#5 then 1 else v.setWidth 5

/-- Mbc1 register write, `addr` in 0x0000-0x7FFF (R215). -/
def Mbc1.writeReg (r : Mbc1) (addr : Word) (v : Byte) : Mbc1 :=
  if addr.toNat < 0x2000 then { r with ramEnable := enablesRam v }
  else if addr.toNat < 0x4000 then { r with romBank := mbc1Bank v }
  else if addr.toNat < 0x6000 then { r with secondaryBank := v.setWidth 2 }
  else { r with advanced := v.getLsbD 0 }

/-- Mbc1 write (R215). -/
def mbc1Write (c : Cartridge) (r : Mbc1) (addr : Word) (v : Byte) : Except Trap Cartridge :=
  if addr.toNat < 0x8000 then .ok { c with mapper := .mbc1 (r.writeReg addr v) }
  else if r.ramEnable then c.eramPut (r.ramOffset addr.toNat) v addr
  else .ok c

/-! ## Mbc3 -/

/-- The RTC byte that selector `0x08 + k` names, in the order S, M, H, DL, DH (R219). -/
def Rtc.get (t : Rtc) (k : Nat) : Byte :=
  match k with
  | 0 => t.s
  | 1 => t.m
  | 2 => t.h
  | 3 => t.dl
  | _ => t.dh

/-- Writes the RTC byte that selector `0x08 + k` names (R219). -/
def Rtc.set (t : Rtc) (k : Nat) (v : Byte) : Rtc :=
  match k with
  | 0 => { t with s := v }
  | 1 => { t with m := v }
  | 2 => { t with h := v }
  | 3 => { t with dl := v }
  | _ => { t with dh := v }

/-- The ROM offset of an address in 0x4000-0x7FFF (R220). -/
def Mbc3.rom1Offset (r : Mbc3) (n : Nat) : Nat := (n - 0x4000) + Config.romBankSize * r.romBank.toNat

/-- The ERAM offset of an address in 0xA000-0xBFFF (R219, R221). -/
def Mbc3.ramOffset (r : Mbc3) (n : Nat) : Nat := Config.ramBankSize * r.select.toNat + (n - 0xA000)

/-- Mbc3 read (R220, R221). -/
def mbc3Read (c : Cartridge) (r : Mbc3) (addr : Word) : Except Trap Byte :=
  if addr.toNat < 0x4000 then c.romAt addr.toNat addr
  else if addr.toNat < 0x8000 then c.romAt (r.rom1Offset addr.toNat) addr
  else if r.ramEnable = false then .ok 0xFF
  else if r.select.toNat ≤ 0x03 then c.eramAt (r.ramOffset addr.toNat) addr
  else if 0x08 ≤ r.select.toNat ∧ r.select.toNat ≤ 0x0C then .ok (r.latched.get (r.select.toNat - 0x08))
  else .error (outOfBounds addr)

/-- The bank value stored for the 7 bits kept: 0 becomes 1 (R219). -/
def mbc3Bank (v : Byte) : BitVec 7 := if v.setWidth 7 = 0#7 then 1 else v.setWidth 7

/-- Mbc3 register write, `addr` in 0x0000-0x7FFF (R219). -/
def Mbc3.writeReg (r : Mbc3) (addr : Word) (v : Byte) : Mbc3 :=
  if addr.toNat < 0x2000 then { r with ramEnable := enablesRam v }
  else if addr.toNat < 0x4000 then { r with romBank := mbc3Bank v }
  else if addr.toNat < 0x6000 then { r with select := v }
  else { r with latched := r.rtc }

/-- Mbc3 write (R219). -/
def mbc3Write (c : Cartridge) (r : Mbc3) (addr : Word) (v : Byte) : Except Trap Cartridge :=
  if addr.toNat < 0x8000 then .ok { c with mapper := .mbc3 (r.writeReg addr v) }
  else if r.ramEnable = false then .ok c
  else if r.select.toNat ≤ 0x03 then c.eramPut (r.ramOffset addr.toNat) v addr
  else if 0x08 ≤ r.select.toNat ∧ r.select.toNat ≤ 0x0C then
    .ok { c with mapper := .mbc3 { r with rtc := r.rtc.set (r.select.toNat - 0x08) v } }
  else .error (outOfBounds addr)

/-! ## The mapper of the loaded cartridge -/

/-- `read(addr)` of the mapper (R212). -/
def mapperRead (c : Cartridge) (addr : Word) : Except Trap Byte :=
  match c.mapper with
  | .noMbc => noMbcRead c addr
  | .mbc1 r => mbc1Read c r addr
  | .mbc3 r => mbc3Read c r addr

/-- `write(addr, v)` of the mapper (R212). -/
def mapperWrite (c : Cartridge) (addr : Word) (v : Byte) : Except Trap Cartridge :=
  match c.mapper with
  | .noMbc => noMbcWrite c addr v
  | .mbc1 r => mbc1Write c r addr v
  | .mbc3 r => mbc3Write c r addr v

end Sys2Proof.Machine
end

