-- ==== Sys2Proof/Machine/Interrupts.lean ====
section
/-! DEFINITION. The interrupt controller (60_exceptions.md R803 to R807): raising, pending, priority, vectors. Dispatch
itself is `takeInterrupt` of Machine/Ops.lean. -/

namespace Sys2Proof.Machine

/-- The bit number of each source (R803). -/
def vblankBit : Nat := 0
/-- LCD-STAT (R803). -/
def statBit : Nat := 1
/-- Timer (R803). -/
def timerBit : Nat := 2

/-- `raise(k)`: sets IF bit `k` (R805). -/
def State.raise (s : State) (k : Nat) : State := s.setIf (s.iflag ||| bitMask k)

/-- `raise(k)` if `b` holds. -/
def State.raiseIf (s : State) (b : Bool) (k : Nat) : State := if b then s.raise k else s

/-- `IE & IF & 0x1F` (R806). -/
def State.pending (s : State) : Byte := s.ie &&& s.iflag &&& 0x1F

/-- The interrupt check of a step boundary (R806). -/
def State.interruptTaken (s : State) : Bool := s.ime && decide (s.pending ≠ 0)

/-- The lowest-numbered set bit of a mask of five sources (R807). -/
def lowestSource (m : Byte) : Nat :=
  if m.getLsbD 0 then 0
  else if m.getLsbD 1 then 1
  else if m.getLsbD 2 then 2
  else if m.getLsbD 3 then 3
  else 4

/-- The vector of source `k` (R803). -/
def vectorOf (k : Nat) : Word := BitVec.ofNat 16 (0x0040 + 8 * k)

end Sys2Proof.Machine
end

