-- ==== Sys2Proof/Machine/Ppu.lean ====
section
/-! DEFINITION. The PPU's mode machine and background renderer (60_exceptions.md R830 to R842). -/

namespace Sys2Proof.Machine

/-- `mode(line, dot)` (R831). -/
def modeAt (line dot : Nat) : BitVec 2 :=
  if Config.visibleLines ≤ line then 1
  else if dot < Config.oamDots then 2
  else if dot < Config.oamDots + Config.drawDots then 3
  else 0

/-- The current mode. -/
def Ppu.mode (p : Ppu) : BitVec 2 := modeAt p.line p.dot

/-- `bool(LY == LYC)` (R837). -/
def Ppu.coincidence (p : Ppu) : Bool := decide (p.line = p.lyc.toNat)

/-- STAT as read (R839). -/
def Ppu.readStat (p : Ppu) : Byte :=
  (p.statW &&& 0xF8) ||| (if p.coincidence then 0x04 else 0x00) ||| p.mode.setWidth 8

/-- The address of the tile data of tile `id` (R833). -/
def tileAddress (lcdc id : Byte) : Nat :=
  if lcdc.getLsbD 4 then 0x8000 + 16 * id.toNat else (0x9000 + 16 * id.toInt).toNat

/-- The colour index of column bit `b` of a row's two planes (R833). -/
def colourIndex (lo hi : Byte) (b : Nat) : Nat := bit (lo.getLsbD b) + 2 * bit (hi.getLsbD b)

/-- The palette slot of a colour index (R835). -/
def paletteSlot (bgp : Byte) (colour : Nat) : BitVec 2 := (bgp >>> (2 * colour)).setWidth 2

/-- `bg_pixel(x, y)` (R833). -/
def bgPixel (vram : Memory) (p : Ppu) (x y : Nat) : BitVec 2 :=
  let sx := (x + p.scx.toNat) % 256
  let sy := (y + p.scy.toNat) % 256
  let map := if p.lcdc.getLsbD 3 then 0x9C00 else 0x9800
  let id := vram.read (map + sy / 8 * 32 + sx / 8 - 0x8000)
  let row := tileAddress p.lcdc id + 2 * (sy % 8)
  let lo := vram.read (row - 0x8000)
  let hi := vram.read (row + 1 - 0x8000)
  paletteSlot p.bgp (colourIndex lo hi (7 - sx % 8))

/-- The step emits a pixel at this position (R830). -/
def Ppu.emits (p : Ppu) : Bool :=
  decide (p.line < Config.visibleLines ∧ Config.oamDots ≤ p.dot ∧ p.dot < Config.oamDots + Config.screenWidth)

/-- The framebuffer index of cell `(x, y)` (R124). -/
def cellIndex (x y : Nat) : Nat := Config.screenWidth * y + x

/-- The framebuffer after this step (R830, R832). -/
def framebufferAfter (vram : Memory) (p : Ppu) : Framebuffer :=
  if p.emits then
    p.fb.write (cellIndex (p.dot - Config.oamDots) p.line) (bgPixel vram p (p.dot - Config.oamDots) p.line)
  else p.fb

/-- The step ends a line (R830). -/
def Ppu.endsLine (p : Ppu) : Bool := decide (p.dot + 1 = Config.lineDots)

/-- The dot after this step (R830). -/
def Ppu.nextDot (p : Ppu) : Nat := if p.endsLine then 0 else p.dot + 1

/-- The line after this step (R830). -/
def Ppu.nextLine (p : Ppu) : Nat :=
  if p.endsLine then (if p.line + 1 = Config.frameLines then 0 else p.line + 1) else p.line

/-- VBlank is raised: the line becomes 144 (R836). -/
def Ppu.entersVblank (p : Ppu) : Bool := p.endsLine && decide (p.nextLine = Config.visibleLines)

/-- LCD-STAT is raised by the LYC condition (R836). -/
def Ppu.hitsLyc (p : Ppu) : Bool := p.endsLine && decide (p.nextLine = p.lyc.toNat) && p.statW.getLsbD 6

/-- The STAT enable bit of a mode (R830); mode 3 has none. -/
def Ppu.modeEnabled (p : Ppu) (m : BitVec 2) : Bool :=
  match m with
  | 0#2 => p.statW.getLsbD 3
  | 1#2 => p.statW.getLsbD 4
  | 2#2 => p.statW.getLsbD 5
  | _ => false

/-- LCD-STAT is raised by a mode change (R836). -/
def Ppu.entersEnabledMode (p : Ppu) : Bool :=
  decide (modeAt p.nextLine p.nextDot ≠ p.mode) && p.modeEnabled (modeAt p.nextLine p.nextDot)

/-- The PPU's registers, position and framebuffer after one dot (R830). -/
def ppuAfter (vram : Memory) (p : Ppu) : Ppu :=
  { p with fb := framebufferAfter vram p, dot := p.nextDot, line := p.nextLine }

/-- `ppu_step()` (R830). -/
def ppuStep (s : State) : State :=
  ((s.setPpu (ppuAfter s.vram s.ppu)).raiseIf s.ppu.entersVblank vblankBit).raiseIf
    (s.ppu.hitsLyc || s.ppu.entersEnabledMode) statBit

/-- The colour the host shows for a cell: `HOST_PALETTE[slot]`, `none` while the cell is unwritten (R832). -/
def displayed (s : State) (x y : Nat) : Option Config.Rgb := (s.ppu.fb.read (cellIndex x y)).map Config.hostPalette

end Sys2Proof.Machine
end

