-- ==== Sys2Proof/Machine/Timer.lean ====
section
/-! DEFINITION. The timer and divider (60_exceptions.md R820 to R824). -/

namespace Sys2Proof.Machine

/-- `divisor(select)` (R820). -/
def divisor (select : BitVec 2) : Nat :=
  match select with
  | 0#2 => 1024
  | 1#2 => 16
  | 2#2 => 64
  | _ => 256

/-- The master clock after one cycle. -/
def Timer.nextMaster (t : Timer) : BitVec 32 := t.master + 1

/-- TIMA counts in this cycle (R820). -/
def Timer.ticks (t : Timer) : Bool := t.enable && decide (t.nextMaster.toNat % divisor t.select = 0)

/-- TIMA wraps, is reloaded and raises the interrupt in this cycle (R824). -/
def Timer.overflows (t : Timer) : Bool := t.ticks && decide (t.tima = 0xFF)

/-- The timer's registers after one cycle (R820). -/
def Timer.cycle (t : Timer) : Timer :=
  { t with
    master := t.nextMaster
    div := if t.nextMaster.toNat % 256 = 0 then t.div + 1 else t.div
    tima := if t.overflows then t.tma else if t.ticks then t.tima + 1 else t.tima }

/-- One timer cycle, with its interrupt (R820, R824). -/
def timerCycle (s : State) : State := (s.setTimer s.timer.cycle).raiseIf s.timer.overflows timerBit

/-- `timer_step(n)` (R820). -/
def timerStep : Nat → State → State
  | 0, s => s
  | n + 1, s => timerStep n (timerCycle s)

/-- TAC as read (R823). -/
def Timer.readTac (t : Timer) : Byte := (if t.enable then 0x04 else 0x00) ||| t.select.setWidth 8

/-- TAC as written (R823). -/
def Timer.writeTac (t : Timer) (v : Byte) : Timer := { t with enable := v.getLsbD 2, select := v.setWidth 2 }

end Sys2Proof.Machine
end

