-- ==== Sys2Proof/Machine/Ops.lean ====
section
/-! DEFINITION. The named operations every meaning is built from: registers (10_state.md R100 to R108), the bus
(20_memory.md R200 to R211), taking a fault (60_exceptions.md R800 to R802), byte and word accesses, the stack
(41_load16.md R450), taking an interrupt (R808) and returning from one (46_control.md R709).

An operation that can fault takes what follows it as an argument `k`, which runs only if the access succeeds: the state
of a fault is then the state built so far (R802). -/

namespace Sys2Proof.Machine

/-! ## Registers -/

/-- `x[r]` (R8, R100). -/
def Regs.get8 (r : Regs) : Reg8 → Byte
  | .b => r.b
  | .c => r.c
  | .d => r.d
  | .e => r.e
  | .h => r.h
  | .l => r.l
  | .a => r.a

/-- `x[r] <- v` (R8, R100). -/
def Regs.set8 (r : Regs) (x : Reg8) (v : Byte) : Regs :=
  match x with
  | .b => { r with b := v }
  | .c => { r with c := v }
  | .d => { r with d := v }
  | .e => { r with e := v }
  | .h => { r with h := v }
  | .l => { r with l := v }
  | .a => { r with a := v }

/-- F as read: bits 3-0 are 0 (R101). -/
def Regs.readF (r : Regs) : Byte := r.f &&& 0xF0

/-- Every write of F: bits 3-0 are stored as 0 (R101). -/
def Regs.setF (r : Regs) (v : Byte) : Regs := { r with f := v &&& 0xF0 }

/-- `sp <- v`. -/
def Regs.setSp (r : Regs) (v : Word) : Regs := { r with sp := v }

/-- `pc <- v`. -/
def Regs.setPc (r : Regs) (v : Word) : Regs := { r with pc := v }

/-- A pair field `dd` as read (R302): the first-named register is the high byte (R100). -/
def Regs.pair (r : Regs) : Pair → Word
  | .bc => joinBytes r.b r.c
  | .de => joinBytes r.d r.e
  | .hl => joinBytes r.h r.l
  | .sp => r.sp

/-- A pair field `dd` as written (R302): a pair write writes both halves. -/
def Regs.setPair (r : Regs) (p : Pair) (v : Word) : Regs :=
  match p with
  | .bc => { r with b := hiByte v, c := loByte v }
  | .de => { r with d := hiByte v, e := loByte v }
  | .hl => { r with h := hiByte v, l := loByte v }
  | .sp => { r with sp := v }

/-- A stack register field `qq` as read (R303). -/
def Regs.stackPair (r : Regs) : StackPair → Word
  | .bc => r.pair .bc
  | .de => r.pair .de
  | .hl => r.pair .hl
  | .af => joinBytes r.a r.readF

/-- A stack register field `qq` as written (R303); AF goes through the write of F (R101, R457). -/
def Regs.setStackPair (r : Regs) (q : StackPair) (v : Word) : Regs :=
  match q with
  | .bc => r.setPair .bc v
  | .de => r.setPair .de v
  | .hl => r.setPair .hl v
  | .af => (r.set8 .a (hiByte v)).setF (loByte v)

/-- `x[HL]`. -/
def Regs.hl (r : Regs) : Word := r.pair .hl

/-- `s` with 8-bit register `x` written. -/
def State.setReg8 (s : State) (x : Reg8) (v : Byte) : State := s.setRegs (s.regs.set8 x v)

/-- `s` with pair `p` written. -/
def State.setPair (s : State) (p : Pair) (v : Word) : State := s.setRegs (s.regs.setPair p v)

/-- `s` with stack pair `q` written. -/
def State.setStackPair (s : State) (q : StackPair) (v : Word) : State := s.setRegs (s.regs.setStackPair q v)

/-- `s` with SP written. -/
def State.setSp (s : State) (v : Word) : State := s.setRegs (s.regs.setSp v)

/-- `s` with PC written. -/
def State.setPc (s : State) (v : Word) : State := s.setRegs (s.regs.setPc v)

/-- Appends the current PC to the history ring, dropping the oldest entry of a full one (R106). -/
def State.historyAppend (s : State) : State :=
  s.setHistory ((s.history ++ [s.regs.pc]).drop ((s.history ++ [s.regs.pc]).length - Config.histCap))

/-! ## Memory-mapped registers -/

/-- The registers of R126 at 0xFF00-0xFF7F. -/
inductive IoReg where
  | joyp | div | tima | tma | tac | intFlag
  | lcdc | stat | scy | scx | ly | lyc | dma | bgp | obp0 | obp1 | wy | wx
  | boot
  deriving DecidableEq, Repr

/-- The register at an address of 0xFF00-0xFF7F; `none` where R203 applies (R126, R201). -/
def ioRegAt (n : Nat) : Option IoReg :=
  match n with
  | 0xFF00 => some .joyp
  | 0xFF04 => some .div
  | 0xFF05 => some .tima
  | 0xFF06 => some .tma
  | 0xFF07 => some .tac
  | 0xFF0F => some .intFlag
  | 0xFF40 => some .lcdc
  | 0xFF41 => some .stat
  | 0xFF42 => some .scy
  | 0xFF43 => some .scx
  | 0xFF44 => some .ly
  | 0xFF45 => some .lyc
  | 0xFF46 => some .dma
  | 0xFF47 => some .bgp
  | 0xFF48 => some .obp0
  | 0xFF49 => some .obp1
  | 0xFF4A => some .wy
  | 0xFF4B => some .wx
  | 0xFF50 => some .boot
  | _ => none

/-- A register's read rule (R211, R804, R821 to R823, R835, R838 to R841, R850). -/
def ioRead (s : State) (r : IoReg) : Byte :=
  match r with
  | .joyp => s.joypad.read
  | .div => s.timer.div
  | .tima => s.timer.tima
  | .tma => s.timer.tma
  | .tac => s.timer.readTac
  | .intFlag => s.iflag
  | .lcdc => s.ppu.lcdc
  | .stat => s.ppu.readStat
  | .scy => s.ppu.scy
  | .scx => s.ppu.scx
  | .ly => BitVec.ofNat 8 s.ppu.line
  | .lyc => s.ppu.lyc
  | .dma => s.ppu.dma
  | .bgp => s.ppu.bgp
  | .obp0 => s.ppu.obp0
  | .obp1 => s.ppu.obp1
  | .wy => s.ppu.wy
  | .wx => s.ppu.wx
  | .boot => if s.bootMode then 0x00 else 0x01

/-- A register's write rule (R211, R804, R821 to R823, R835, R838 to R841, R851). -/
def ioWrite (s : State) (r : IoReg) (v : Byte) : State :=
  match r with
  | .joyp => s.setJoypad (s.joypad.write v)
  | .div => s.setTimer { s.timer with div := 0 }
  | .tima => s.setTimer { s.timer with tima := v }
  | .tma => s.setTimer { s.timer with tma := v }
  | .tac => s.setTimer (s.timer.writeTac v)
  | .intFlag => s.setIf v
  | .lcdc => s.setPpu { s.ppu with lcdc := v }
  | .stat => s.setPpu { s.ppu with statW := v &&& 0xF8 }
  | .scy => s.setPpu { s.ppu with scy := v }
  | .scx => s.setPpu { s.ppu with scx := v }
  | .ly => s
  | .lyc => s.setPpu { s.ppu with lyc := v }
  | .dma => s.setPpu { s.ppu with dma := v }
  | .bgp => s.setPpu { s.ppu with bgp := v }
  | .obp0 => s.setPpu { s.ppu with obp0 := v }
  | .obp1 => s.setPpu { s.ppu with obp1 := v }
  | .wy => s.setPpu { s.ppu with wy := v }
  | .wx => s.setPpu { s.ppu with wx := v }
  | .boot => if v = 0x01 then s.setBootMode false else s

/-! ## The bus -/

/-- Where the bus sends an address (R201). -/
inductive Target where
  | bootRom | mapper | vram | wram | unlisted | io (r : IoReg) | hram | ie
  deriving DecidableEq, Repr

/-- The routing of R201. -/
def route (bootMode : Bool) (addr : Word) : Target :=
  if addr.toNat < 0x0100 ∧ bootMode = true then .bootRom
  else if addr.toNat < 0x8000 then .mapper
  else if addr.toNat < 0xA000 then .vram
  else if addr.toNat < 0xC000 then .mapper
  else if addr.toNat < 0xE000 then .wram
  else if addr.toNat < 0xFF00 then .unlisted
  else if addr.toNat < 0xFF80 then
    match ioRegAt addr.toNat with
    | some r => .io r
    | none => .unlisted
  else if addr.toNat < 0xFFFF then .hram
  else .ie

/-- `read8(addr)` (R201, R203, R210). No read changes the state (R208). -/
def busRead (s : State) (addr : Word) : Except Trap Byte :=
  match route s.bootMode addr with
  | .bootRom => .ok (s.bootRom.read addr.toNat)
  | .mapper => mapperRead s.cart addr
  | .vram => .ok (s.vram.read (addr.toNat - 0x8000))
  | .wram => .ok (s.wram.read (addr.toNat - 0xC000))
  | .unlisted => .ok 0x00
  | .io r => .ok (ioRead s r)
  | .hram => .ok (s.hram.read (addr.toNat - 0xFF80))
  | .ie => .ok s.ie

/-- `write8(addr, v)` (R202, R203, R210). -/
def busWrite (s : State) (addr : Word) (v : Byte) : Except Trap State :=
  match route s.bootMode addr with
  | .bootRom => .error { kind := .bootRomWrite, info := addr }
  | .mapper => (mapperWrite s.cart addr v).map s.setCart
  | .vram => .ok (s.setVram (s.vram.write (addr.toNat - 0x8000) v))
  | .wram => .ok (s.setWram (s.wram.write (addr.toNat - 0xC000) v))
  | .unlisted => .ok s
  | .io r => .ok (ioWrite s r v)
  | .hram => .ok (s.setHram (s.hram.write (addr.toNat - 0xFF80) v))
  | .ie => .ok (s.setIe v)

/-! ## Faults -/

/-- TAKING A FAULT (R801, R802): the status becomes `faulted`; nothing else changes. -/
def State.takeFault (s : State) (t : Trap) : State := s.setStatus (.faulted t)

/-- `raise Fault(kind, info)` (R11): the step ends in the state built so far. -/
def raiseFault (s : State) (t : Trap) : Out := .next (s.takeFault t)

/-! ## Accesses -/

/-- `MemRead(addr, 1)` (R9), then `k` with the byte. -/
def readByte (s : State) (addr : Word) (k : Byte → Out) : Out :=
  match busRead s addr with
  | .ok v => k v
  | .error t => raiseFault s t

/-- `MemWrite(addr, 1, v)` (R9), then `k` with the state written. -/
def writeByte (s : State) (addr : Word) (v : Byte) (k : State → Out) : Out :=
  match busWrite s addr v with
  | .ok s' => k s'
  | .error t => raiseFault s t

/-- `MemRead(addr, 2)` (R204): low byte first, at `addr`; high byte at `addr + 1`. -/
def readWord (s : State) (addr : Word) (k : Word → Out) : Out :=
  readByte s addr fun lo => readByte s (addr + 1) fun hi => k (joinBytes hi lo)

/-- `MemWrite(addr, 2, v)` (R204): low byte first, at `addr`; high byte at `addr + 1`. -/
def writeWord (s : State) (addr : Word) (v : Word) (k : State → Out) : Out :=
  writeByte s addr (loByte v) fun s1 => writeByte s1 (addr + 1) (hiByte v) k

/-- `fetch8()` (R9), then `k` with the byte and the state whose PC has advanced. -/
def fetchByte (s : State) (k : Byte → State → Out) : Out :=
  readByte s s.regs.pc fun v => k v (s.setPc (s.regs.pc + 1))

/-! ## The stack (R450) -/

/-- `push16(v)`, then `k`. -/
def push16 (s : State) (v : Word) (k : State → Out) : Out :=
  writeWord (s.setSp (s.regs.sp - 2)) (s.regs.sp - 2) v k

/-- `pop16()`, then `k` with the word and the state whose SP has moved. -/
def pop16 (s : State) (k : Word → State → Out) : Out :=
  readWord s s.regs.sp fun v => k v (s.setSp (s.regs.sp + 2))

/-! ## Interrupts -/

/-- IME and the serviced IF bit cleared (R808). -/
def State.acknowledge (s : State) : State :=
  (s.setIme false).setIf (s.iflag &&& ~~~(bitMask (lowestSource s.pending)))

/-- TAKING AN INTERRUPT (R808): clears IME and the serviced IF bit, pushes PC, goes to the vector. No fetch, no append
to the history ring. -/
def takeInterrupt (s : State) : Out :=
  push16 s.acknowledge s.regs.pc fun s1 => .next (s1.setPc (vectorOf (lowestSource s.pending)))

/-- RETURN FROM AN INTERRUPT (R709): pops PC, then sets IME. -/
def returnFromInterrupt (s : State) : Out :=
  pop16 s fun v s1 => .next ((s1.setPc v).setIme true)

end Sys2Proof.Machine
end

