-- ==== Sys2Proof/Machine/Flags.lean ====
section
/-! DEFINITION. Every flag computation of the instruction set: the flags of F (10_state.md R102), the 8-bit additions,
subtractions and logic (42_alu8.md R500 to R514), the 16-bit additions (43_alu16.md R550, R553), the rotates and shifts
(44_rotate_shift.md) and DAA (47_misc.md R750). Sums are taken over the integers before the result wraps (R7). -/

namespace Sys2Proof.Machine

/-! ## The flags of F -/

/-- `F.Z`, bit 7 (R102). -/
def Regs.flagZ (r : Regs) : Bool := r.f.getLsbD 7
/-- `F.N`, bit 6 (R102). -/
def Regs.flagN (r : Regs) : Bool := r.f.getLsbD 6
/-- `F.H`, bit 5 (R102). -/
def Regs.flagH (r : Regs) : Bool := r.f.getLsbD 5
/-- `F.C`, bit 4 (R102). -/
def Regs.flagC (r : Regs) : Bool := r.f.getLsbD 4

/-- F with the four flags at bits 7-4 and zeros below (R101, R102). -/
def packFlags (z n h c : Bool) : Byte :=
  (if z then 0x80 else 0) ||| (if n then 0x40 else 0) ||| (if h then 0x20 else 0) ||| (if c then 0x10 else 0)

/-- Writes the four flags. -/
def Regs.setFlags (r : Regs) (z n h c : Bool) : Regs := r.setF (packFlags z n h c)

/-- Writes the four flags. -/
def State.setFlags (s : State) (z n h c : Bool) : State := s.setRegs (s.regs.setFlags z n h c)

/-- `cond(cc)` (R304). -/
def Regs.holds (r : Regs) : Cond → Bool
  | .nz => !r.flagZ
  | .z => r.flagZ
  | .nc => !r.flagC
  | .c => r.flagC

/-! ## 8-bit arithmetic and logic -/

/-- A result byte and the four flags. -/
structure AluResult where
  value : Byte
  z : Bool
  n : Bool
  h : Bool
  c : Bool
  deriving DecidableEq, Repr

/-- `add8(a, b, cin)` (R500). -/
def add8 (a b : Byte) (cin : Bool) : AluResult :=
  let r := BitVec.ofNat 8 (a.toNat + b.toNat + bit cin)
  { value := r
    z := decide (r = 0)
    n := false
    h := decide (a.toNat % 16 + b.toNat % 16 + bit cin > 0xF)
    c := decide (a.toNat + b.toNat + bit cin > 0xFF) }

/-- `sub8(a, b, cin)` (R501). -/
def sub8 (a b : Byte) (cin : Bool) : AluResult :=
  let r := a - b - BitVec.ofNat 8 (bit cin)
  { value := r
    z := decide (r = 0)
    n := true
    h := decide (b.toNat % 16 + bit cin > a.toNat % 16)
    c := decide (b.toNat + bit cin > a.toNat) }

/-- The result and flags of a logical operation (R507 to R509): N and C are 0, H is given. -/
def logic8 (r : Byte) (h : Bool) : AluResult := { value := r, z := decide (r = 0), n := false, h := h, c := false }

/-- The eight ALU operations on A, the operand and F.C (R503 to R510). -/
def aluResult (op : AluOp) (a v : Byte) (c : Bool) : AluResult :=
  match op with
  | .add => add8 a v false
  | .adc => add8 a v c
  | .sub => sub8 a v false
  | .sbc => sub8 a v c
  | .and => logic8 (a &&& v) true
  | .xor => logic8 (a ^^^ v) false
  | .or => logic8 (a ||| v) false
  | .cp => sub8 a v false

/-- The ALU operation writes its result to A: all but CP (R510). -/
def writesBack : AluOp → Bool
  | .cp => false
  | .add | .adc | .sub | .sbc | .and | .xor | .or => true

/-- 8-bit increment (R511): C is the old C. -/
def inc8 (v : Byte) (c : Bool) : AluResult :=
  { value := v + 1, z := decide (v + 1 = 0), n := false, h := decide (v &&& 0xF = 0xF), c := c }

/-- 8-bit decrement (R513): C is the old C. -/
def dec8 (v : Byte) (c : Bool) : AluResult :=
  { value := v - 1, z := decide (v - 1 = 0), n := true, h := decide (v &&& 0xF = 0), c := c }

/-! ## 16-bit arithmetic -/

/-- A 16-bit result with its H and C. -/
structure SumResult where
  value : Word
  h : Bool
  c : Bool
  deriving DecidableEq, Repr

/-- `sp_plus_r8(s, e)` (R550): H and C from the unsigned low-byte addition. -/
def spPlusR8 (s : Word) (e : Byte) : SumResult :=
  { value := s + sext16 e
    h := decide (s.toNat % 16 + e.toNat % 16 > 0xF)
    c := decide (s.toNat % 256 + e.toNat > 0xFF) }

/-- The sum of `ADD HL,rr` (R553): H from bit 11, C from bit 15. -/
def add16 (a b : Word) : SumResult :=
  { value := a + b
    h := decide (a.toNat % 0x1000 + b.toNat % 0x1000 > 0x0FFF)
    c := decide (a.toNat + b.toNat > 0xFFFF) }

/-! ## Rotates and shifts -/

/-- A rotated byte and the bit shifted out. -/
structure RotResult where
  value : Byte
  c : Bool
  deriving DecidableEq, Repr

/-- A bit as a byte. -/
def bitByte (b : Bool) : Byte := if b then 1 else 0

/-- The rotates, shifts and SWAP on a byte and F.C (R600 to R611). -/
def rotResult (op : RotOp) (v : Byte) (c : Bool) : RotResult :=
  match op with
  | .rlc => { value := (v <<< 1) ||| bitByte (v.getLsbD 7), c := v.getLsbD 7 }
  | .rrc => { value := (v >>> 1) ||| (bitByte (v.getLsbD 0) <<< 7), c := v.getLsbD 0 }
  | .rl => { value := (v <<< 1) ||| bitByte c, c := v.getLsbD 7 }
  | .rr => { value := (v >>> 1) ||| (bitByte c <<< 7), c := v.getLsbD 0 }
  | .sla => { value := v <<< 1, c := v.getLsbD 7 }
  | .sra => { value := (v >>> 1) ||| (v &&& 0x80), c := v.getLsbD 0 }
  | .swap => { value := ((v &&& 0x0F) <<< 4) ||| (v >>> 4), c := false }
  | .srl => { value := v >>> 1, c := v.getLsbD 0 }

/-! ## DAA -/

/-- The adjusted A and C of DAA (R750). -/
def daaResult (a : Byte) (n h c : Bool) : RotResult :=
  if n then
    let a1 := if c then a - 0x60 else a
    { value := if h then a1 - 0x06 else a1, c := c }
  else
    let high := c || decide (a.toNat > 0x99)
    let a1 := if high then a + 0x60 else a
    { value := if h || decide ((a1 &&& 0x0F).toNat > 0x09) then a1 + 0x06 else a1, c := high }

end Sys2Proof.Machine
end

