-- ==== Sys2Proof/Machine/Operands.lean ====
section
/-! DEFINITION. The operand forms of the instruction set: the register field (00_scope.md R10), the effective addresses of
30_encoding.md R308 and 40_load8.md, and the relative target of 46_control.md R703. -/

namespace Sys2Proof.Machine

/-- `rd8(r)` (R10), then `k`. -/
def readOperand8 (o : Operand8) (s : State) (k : Byte → Out) : Out :=
  match o with
  | .reg r => k (s.regs.get8 r)
  | .atHL => readByte s s.regs.hl k

/-- `wr8(r, v)` (R10), then `k`. -/
def writeOperand8 (o : Operand8) (v : Byte) (s : State) (k : State → Out) : Out :=
  match o with
  | .reg r => k (s.setReg8 r v)
  | .atHL => writeByte s s.regs.hl v k

/-- The high-page address `0xFF00 + n` of `LDH` and `LD (C)` forms (R308). -/
def highPage (n : Byte) : Word := 0xFF00 + zext16 n

/-- The target of a relative jump: `pc + sext_16(e)`, PC already past the operand (R703). -/
def relativeTarget (s : State) (e : Byte) : Word := s.regs.pc + sext16 e

/-- The target of `RST t` (R307). -/
def restartTarget (t : Fin 8) : Word := BitVec.ofNat 16 (8 * t.val)

end Sys2Proof.Machine
end

