-- ==== Sys2Proof/Machine/Alu16.lean ====
section
/-! DEFINITION. The 16-bit arithmetic instructions (43_alu16.md R551 to R554). -/

namespace Sys2Proof.Machine

/-- `INC rr` (R551): no flag. -/
def incPair (p : Pair) (s : State) : Out := .next (s.setPair p (s.regs.pair p + 1))

/-- `DEC rr` (R552): no flag. -/
def decPair (p : Pair) (s : State) : Out := .next (s.setPair p (s.regs.pair p - 1))

/-- `ADD HL,rr` (R553): Z is kept. -/
def addHl (p : Pair) (s : State) : Out :=
  let r := add16 s.regs.hl (s.regs.pair p)
  .next ((s.setPair .hl r.value).setFlags s.regs.flagZ false r.h r.c)

/-- `ADD SP,r8` (R554): Z and N are 0. -/
def addSp (e : Byte) (s : State) : Out :=
  let r := spPlusR8 s.regs.sp e
  .next ((s.setSp r.value).setFlags false false r.h r.c)

/-- `INC BC`, 03 (R551). -/
def execInc_BC (s : State) : Out := incPair .bc s

/-- `ADD HL,BC`, 09 (R553). -/
def execAdd_HL_BC (s : State) : Out := addHl .bc s

/-- `DEC BC`, 0B (R552). -/
def execDec_BC (s : State) : Out := decPair .bc s

/-- `INC DE`, 13 (R551). -/
def execInc_DE (s : State) : Out := incPair .de s

/-- `ADD HL,DE`, 19 (R553). -/
def execAdd_HL_DE (s : State) : Out := addHl .de s

/-- `DEC DE`, 1B (R552). -/
def execDec_DE (s : State) : Out := decPair .de s

/-- `INC HL`, 23 (R551). -/
def execInc_HL (s : State) : Out := incPair .hl s

/-- `ADD HL,HL`, 29 (R553). -/
def execAdd_HL_HL (s : State) : Out := addHl .hl s

/-- `DEC HL`, 2B (R552). -/
def execDec_HL (s : State) : Out := decPair .hl s

/-- `INC SP`, 33 (R551). -/
def execInc_SP (s : State) : Out := incPair .sp s

/-- `ADD HL,SP`, 39 (R553). -/
def execAdd_HL_SP (s : State) : Out := addHl .sp s

/-- `DEC SP`, 3B (R552). -/
def execDec_SP (s : State) : Out := decPair .sp s

/-- `ADD SP,r8`, E8 (R554). -/
def execAdd_SP_r8 (v : Byte) (s : State) : Out := addSp v s

end Sys2Proof.Machine
end

