-- ==== Sys2Proof/Machine/Alu8.lean ====
section
/-! DEFINITION. The 8-bit arithmetic and logic instructions (42_alu8.md R500 to R514). -/

namespace Sys2Proof.Machine

/-- The effect of an ALU operation on A and the flags, its operand read (R503 to R510). -/
def applyAlu (op : AluOp) (v : Byte) (s : State) : State :=
  let r := aluResult op s.regs.a v s.regs.flagC
  (if writesBack op then s.setReg8 .a r.value else s).setFlags r.z r.n r.h r.c

/-- An ALU operation on a register or `(HL)` (R502). -/
def aluOperand (op : AluOp) (o : Operand8) (s : State) : Out := readOperand8 o s fun v => .next (applyAlu op v s)

/-- An ALU operation on an immediate (R502). -/
def aluImmediate (op : AluOp) (v : Byte) (s : State) : Out := .next (applyAlu op v s)

/-- Writes the result of INC or DEC to its operand, then the flags (R511 to R514). -/
def writeBack (o : Operand8) (r : AluResult) (s : State) : Out :=
  writeOperand8 o r.value s fun s1 => .next (s1.setFlags r.z r.n r.h r.c)

/-- 8-bit INC (R511, R512): C is kept. -/
def incOperand (o : Operand8) (s : State) : Out := readOperand8 o s fun v => writeBack o (inc8 v s.regs.flagC) s

/-- 8-bit DEC (R513, R514): C is kept. -/
def decOperand (o : Operand8) (s : State) : Out := readOperand8 o s fun v => writeBack o (dec8 v s.regs.flagC) s

/-- `INC B`, 04 (R511). -/
def execInc_B (s : State) : Out := incOperand (.reg .b) s

/-- `DEC B`, 05 (R513). -/
def execDec_B (s : State) : Out := decOperand (.reg .b) s

/-- `INC C`, 0C (R511). -/
def execInc_C (s : State) : Out := incOperand (.reg .c) s

/-- `DEC C`, 0D (R513). -/
def execDec_C (s : State) : Out := decOperand (.reg .c) s

/-- `INC D`, 14 (R511). -/
def execInc_D (s : State) : Out := incOperand (.reg .d) s

/-- `DEC D`, 15 (R513). -/
def execDec_D (s : State) : Out := decOperand (.reg .d) s

/-- `INC E`, 1C (R511). -/
def execInc_E (s : State) : Out := incOperand (.reg .e) s

/-- `DEC E`, 1D (R513). -/
def execDec_E (s : State) : Out := decOperand (.reg .e) s

/-- `INC H`, 24 (R511). -/
def execInc_H (s : State) : Out := incOperand (.reg .h) s

/-- `DEC H`, 25 (R513). -/
def execDec_H (s : State) : Out := decOperand (.reg .h) s

/-- `INC L`, 2C (R511). -/
def execInc_L (s : State) : Out := incOperand (.reg .l) s

/-- `DEC L`, 2D (R513). -/
def execDec_L (s : State) : Out := decOperand (.reg .l) s

/-- `INC (HL)`, 34 (R512). -/
def execInc_atHL (s : State) : Out := incOperand .atHL s

/-- `DEC (HL)`, 35 (R514). -/
def execDec_atHL (s : State) : Out := decOperand .atHL s

/-- `INC A`, 3C (R511). -/
def execInc_A (s : State) : Out := incOperand (.reg .a) s

/-- `DEC A`, 3D (R513). -/
def execDec_A (s : State) : Out := decOperand (.reg .a) s

/-- `ADD A,B`, 80 (R503). -/
def execAdd_A_B (s : State) : Out := aluOperand .add (.reg .b) s

/-- `ADD A,C`, 81 (R503). -/
def execAdd_A_C (s : State) : Out := aluOperand .add (.reg .c) s

/-- `ADD A,D`, 82 (R503). -/
def execAdd_A_D (s : State) : Out := aluOperand .add (.reg .d) s

/-- `ADD A,E`, 83 (R503). -/
def execAdd_A_E (s : State) : Out := aluOperand .add (.reg .e) s

/-- `ADD A,H`, 84 (R503). -/
def execAdd_A_H (s : State) : Out := aluOperand .add (.reg .h) s

/-- `ADD A,L`, 85 (R503). -/
def execAdd_A_L (s : State) : Out := aluOperand .add (.reg .l) s

/-- `ADD A,(HL)`, 86 (R503). -/
def execAdd_A_atHL (s : State) : Out := aluOperand .add .atHL s

/-- `ADD A,A`, 87 (R503). -/
def execAdd_A_A (s : State) : Out := aluOperand .add (.reg .a) s

/-- `ADC A,B`, 88 (R504). -/
def execAdc_A_B (s : State) : Out := aluOperand .adc (.reg .b) s

/-- `ADC A,C`, 89 (R504). -/
def execAdc_A_C (s : State) : Out := aluOperand .adc (.reg .c) s

/-- `ADC A,D`, 8A (R504). -/
def execAdc_A_D (s : State) : Out := aluOperand .adc (.reg .d) s

/-- `ADC A,E`, 8B (R504). -/
def execAdc_A_E (s : State) : Out := aluOperand .adc (.reg .e) s

/-- `ADC A,H`, 8C (R504). -/
def execAdc_A_H (s : State) : Out := aluOperand .adc (.reg .h) s

/-- `ADC A,L`, 8D (R504). -/
def execAdc_A_L (s : State) : Out := aluOperand .adc (.reg .l) s

/-- `ADC A,(HL)`, 8E (R504). -/
def execAdc_A_atHL (s : State) : Out := aluOperand .adc .atHL s

/-- `ADC A,A`, 8F (R504). -/
def execAdc_A_A (s : State) : Out := aluOperand .adc (.reg .a) s

/-- `SUB B`, 90 (R505). -/
def execSub_B (s : State) : Out := aluOperand .sub (.reg .b) s

/-- `SUB C`, 91 (R505). -/
def execSub_C (s : State) : Out := aluOperand .sub (.reg .c) s

/-- `SUB D`, 92 (R505). -/
def execSub_D (s : State) : Out := aluOperand .sub (.reg .d) s

/-- `SUB E`, 93 (R505). -/
def execSub_E (s : State) : Out := aluOperand .sub (.reg .e) s

/-- `SUB H`, 94 (R505). -/
def execSub_H (s : State) : Out := aluOperand .sub (.reg .h) s

/-- `SUB L`, 95 (R505). -/
def execSub_L (s : State) : Out := aluOperand .sub (.reg .l) s

/-- `SUB (HL)`, 96 (R505). -/
def execSub_atHL (s : State) : Out := aluOperand .sub .atHL s

/-- `SUB A`, 97 (R505). -/
def execSub_A (s : State) : Out := aluOperand .sub (.reg .a) s

/-- `SBC A,B`, 98 (R506). -/
def execSbc_A_B (s : State) : Out := aluOperand .sbc (.reg .b) s

/-- `SBC A,C`, 99 (R506). -/
def execSbc_A_C (s : State) : Out := aluOperand .sbc (.reg .c) s

/-- `SBC A,D`, 9A (R506). -/
def execSbc_A_D (s : State) : Out := aluOperand .sbc (.reg .d) s

/-- `SBC A,E`, 9B (R506). -/
def execSbc_A_E (s : State) : Out := aluOperand .sbc (.reg .e) s

/-- `SBC A,H`, 9C (R506). -/
def execSbc_A_H (s : State) : Out := aluOperand .sbc (.reg .h) s

/-- `SBC A,L`, 9D (R506). -/
def execSbc_A_L (s : State) : Out := aluOperand .sbc (.reg .l) s

/-- `SBC A,(HL)`, 9E (R506). -/
def execSbc_A_atHL (s : State) : Out := aluOperand .sbc .atHL s

/-- `SBC A,A`, 9F (R506). -/
def execSbc_A_A (s : State) : Out := aluOperand .sbc (.reg .a) s

/-- `AND B`, A0 (R507). -/
def execAnd_B (s : State) : Out := aluOperand .and (.reg .b) s

/-- `AND C`, A1 (R507). -/
def execAnd_C (s : State) : Out := aluOperand .and (.reg .c) s

/-- `AND D`, A2 (R507). -/
def execAnd_D (s : State) : Out := aluOperand .and (.reg .d) s

/-- `AND E`, A3 (R507). -/
def execAnd_E (s : State) : Out := aluOperand .and (.reg .e) s

/-- `AND H`, A4 (R507). -/
def execAnd_H (s : State) : Out := aluOperand .and (.reg .h) s

/-- `AND L`, A5 (R507). -/
def execAnd_L (s : State) : Out := aluOperand .and (.reg .l) s

/-- `AND (HL)`, A6 (R507). -/
def execAnd_atHL (s : State) : Out := aluOperand .and .atHL s

/-- `AND A`, A7 (R507). -/
def execAnd_A (s : State) : Out := aluOperand .and (.reg .a) s

/-- `XOR B`, A8 (R508). -/
def execXor_B (s : State) : Out := aluOperand .xor (.reg .b) s

/-- `XOR C`, A9 (R508). -/
def execXor_C (s : State) : Out := aluOperand .xor (.reg .c) s

/-- `XOR D`, AA (R508). -/
def execXor_D (s : State) : Out := aluOperand .xor (.reg .d) s

/-- `XOR E`, AB (R508). -/
def execXor_E (s : State) : Out := aluOperand .xor (.reg .e) s

/-- `XOR H`, AC (R508). -/
def execXor_H (s : State) : Out := aluOperand .xor (.reg .h) s

/-- `XOR L`, AD (R508). -/
def execXor_L (s : State) : Out := aluOperand .xor (.reg .l) s

/-- `XOR (HL)`, AE (R508). -/
def execXor_atHL (s : State) : Out := aluOperand .xor .atHL s

/-- `XOR A`, AF (R508). -/
def execXor_A (s : State) : Out := aluOperand .xor (.reg .a) s

/-- `OR B`, B0 (R509). -/
def execOr_B (s : State) : Out := aluOperand .or (.reg .b) s

/-- `OR C`, B1 (R509). -/
def execOr_C (s : State) : Out := aluOperand .or (.reg .c) s

/-- `OR D`, B2 (R509). -/
def execOr_D (s : State) : Out := aluOperand .or (.reg .d) s

/-- `OR E`, B3 (R509). -/
def execOr_E (s : State) : Out := aluOperand .or (.reg .e) s

/-- `OR H`, B4 (R509). -/
def execOr_H (s : State) : Out := aluOperand .or (.reg .h) s

/-- `OR L`, B5 (R509). -/
def execOr_L (s : State) : Out := aluOperand .or (.reg .l) s

/-- `OR (HL)`, B6 (R509). -/
def execOr_atHL (s : State) : Out := aluOperand .or .atHL s

/-- `OR A`, B7 (R509). -/
def execOr_A (s : State) : Out := aluOperand .or (.reg .a) s

/-- `CP B`, B8 (R510). -/
def execCp_B (s : State) : Out := aluOperand .cp (.reg .b) s

/-- `CP C`, B9 (R510). -/
def execCp_C (s : State) : Out := aluOperand .cp (.reg .c) s

/-- `CP D`, BA (R510). -/
def execCp_D (s : State) : Out := aluOperand .cp (.reg .d) s

/-- `CP E`, BB (R510). -/
def execCp_E (s : State) : Out := aluOperand .cp (.reg .e) s

/-- `CP H`, BC (R510). -/
def execCp_H (s : State) : Out := aluOperand .cp (.reg .h) s

/-- `CP L`, BD (R510). -/
def execCp_L (s : State) : Out := aluOperand .cp (.reg .l) s

/-- `CP (HL)`, BE (R510). -/
def execCp_atHL (s : State) : Out := aluOperand .cp .atHL s

/-- `CP A`, BF (R510). -/
def execCp_A (s : State) : Out := aluOperand .cp (.reg .a) s

/-- `ADD A,d8`, C6 (R503). -/
def execAdd_A_d8 (v : Byte) (s : State) : Out := aluImmediate .add v s

/-- `ADC A,d8`, CE (R504). -/
def execAdc_A_d8 (v : Byte) (s : State) : Out := aluImmediate .adc v s

/-- `SUB d8`, D6 (R505). -/
def execSub_d8 (v : Byte) (s : State) : Out := aluImmediate .sub v s

/-- `SBC A,d8`, DE (R506). -/
def execSbc_A_d8 (v : Byte) (s : State) : Out := aluImmediate .sbc v s

/-- `AND d8`, E6 (R507). -/
def execAnd_d8 (v : Byte) (s : State) : Out := aluImmediate .and v s

/-- `XOR d8`, EE (R508). -/
def execXor_d8 (v : Byte) (s : State) : Out := aluImmediate .xor v s

/-- `OR d8`, F6 (R509). -/
def execOr_d8 (v : Byte) (s : State) : Out := aluImmediate .or v s

/-- `CP d8`, FE (R510). -/
def execCp_d8 (v : Byte) (s : State) : Out := aluImmediate .cp v s

end Sys2Proof.Machine
end

