-- ==== Sys2Proof/Machine/Bit.lean ====
section
/-! DEFINITION. The single-bit operations (45_bit.md R650 to R652). -/

namespace Sys2Proof.Machine

/-- `BIT b,z` (R650): C is kept, nothing is written to the operand. -/
def bitTest (b : Fin 8) (o : Operand8) (s : State) : Out :=
  readOperand8 o s fun v => .next (s.setFlags (!v.getLsbD b.val) false true s.regs.flagC)

/-- `RES b,z` (R651): no flag; the byte is written even if the bit is clear. -/
def bitReset (b : Fin 8) (o : Operand8) (s : State) : Out :=
  readOperand8 o s fun v => writeOperand8 o (v &&& ~~~(bitMask b.val)) s fun s1 => .next s1

/-- `SET b,z` (R652): no flag; the byte is written even if the bit is set. -/
def bitSet (b : Fin 8) (o : Operand8) (s : State) : Out :=
  readOperand8 o s fun v => writeOperand8 o (v ||| bitMask b.val) s fun s1 => .next s1

/-- `BIT 0,B`, CB 40 (R650). -/
def execBit_0_B (s : State) : Out := bitTest 0 (.reg .b) s

/-- `BIT 0,C`, CB 41 (R650). -/
def execBit_0_C (s : State) : Out := bitTest 0 (.reg .c) s

/-- `BIT 0,D`, CB 42 (R650). -/
def execBit_0_D (s : State) : Out := bitTest 0 (.reg .d) s

/-- `BIT 0,E`, CB 43 (R650). -/
def execBit_0_E (s : State) : Out := bitTest 0 (.reg .e) s

/-- `BIT 0,H`, CB 44 (R650). -/
def execBit_0_H (s : State) : Out := bitTest 0 (.reg .h) s

/-- `BIT 0,L`, CB 45 (R650). -/
def execBit_0_L (s : State) : Out := bitTest 0 (.reg .l) s

/-- `BIT 0,(HL)`, CB 46 (R650). -/
def execBit_0_atHL (s : State) : Out := bitTest 0 .atHL s

/-- `BIT 0,A`, CB 47 (R650). -/
def execBit_0_A (s : State) : Out := bitTest 0 (.reg .a) s

/-- `BIT 1,B`, CB 48 (R650). -/
def execBit_1_B (s : State) : Out := bitTest 1 (.reg .b) s

/-- `BIT 1,C`, CB 49 (R650). -/
def execBit_1_C (s : State) : Out := bitTest 1 (.reg .c) s

/-- `BIT 1,D`, CB 4A (R650). -/
def execBit_1_D (s : State) : Out := bitTest 1 (.reg .d) s

/-- `BIT 1,E`, CB 4B (R650). -/
def execBit_1_E (s : State) : Out := bitTest 1 (.reg .e) s

/-- `BIT 1,H`, CB 4C (R650). -/
def execBit_1_H (s : State) : Out := bitTest 1 (.reg .h) s

/-- `BIT 1,L`, CB 4D (R650). -/
def execBit_1_L (s : State) : Out := bitTest 1 (.reg .l) s

/-- `BIT 1,(HL)`, CB 4E (R650). -/
def execBit_1_atHL (s : State) : Out := bitTest 1 .atHL s

/-- `BIT 1,A`, CB 4F (R650). -/
def execBit_1_A (s : State) : Out := bitTest 1 (.reg .a) s

/-- `BIT 2,B`, CB 50 (R650). -/
def execBit_2_B (s : State) : Out := bitTest 2 (.reg .b) s

/-- `BIT 2,C`, CB 51 (R650). -/
def execBit_2_C (s : State) : Out := bitTest 2 (.reg .c) s

/-- `BIT 2,D`, CB 52 (R650). -/
def execBit_2_D (s : State) : Out := bitTest 2 (.reg .d) s

/-- `BIT 2,E`, CB 53 (R650). -/
def execBit_2_E (s : State) : Out := bitTest 2 (.reg .e) s

/-- `BIT 2,H`, CB 54 (R650). -/
def execBit_2_H (s : State) : Out := bitTest 2 (.reg .h) s

/-- `BIT 2,L`, CB 55 (R650). -/
def execBit_2_L (s : State) : Out := bitTest 2 (.reg .l) s

/-- `BIT 2,(HL)`, CB 56 (R650). -/
def execBit_2_atHL (s : State) : Out := bitTest 2 .atHL s

/-- `BIT 2,A`, CB 57 (R650). -/
def execBit_2_A (s : State) : Out := bitTest 2 (.reg .a) s

/-- `BIT 3,B`, CB 58 (R650). -/
def execBit_3_B (s : State) : Out := bitTest 3 (.reg .b) s

/-- `BIT 3,C`, CB 59 (R650). -/
def execBit_3_C (s : State) : Out := bitTest 3 (.reg .c) s

/-- `BIT 3,D`, CB 5A (R650). -/
def execBit_3_D (s : State) : Out := bitTest 3 (.reg .d) s

/-- `BIT 3,E`, CB 5B (R650). -/
def execBit_3_E (s : State) : Out := bitTest 3 (.reg .e) s

/-- `BIT 3,H`, CB 5C (R650). -/
def execBit_3_H (s : State) : Out := bitTest 3 (.reg .h) s

/-- `BIT 3,L`, CB 5D (R650). -/
def execBit_3_L (s : State) : Out := bitTest 3 (.reg .l) s

/-- `BIT 3,(HL)`, CB 5E (R650). -/
def execBit_3_atHL (s : State) : Out := bitTest 3 .atHL s

/-- `BIT 3,A`, CB 5F (R650). -/
def execBit_3_A (s : State) : Out := bitTest 3 (.reg .a) s

/-- `BIT 4,B`, CB 60 (R650). -/
def execBit_4_B (s : State) : Out := bitTest 4 (.reg .b) s

/-- `BIT 4,C`, CB 61 (R650). -/
def execBit_4_C (s : State) : Out := bitTest 4 (.reg .c) s

/-- `BIT 4,D`, CB 62 (R650). -/
def execBit_4_D (s : State) : Out := bitTest 4 (.reg .d) s

/-- `BIT 4,E`, CB 63 (R650). -/
def execBit_4_E (s : State) : Out := bitTest 4 (.reg .e) s

/-- `BIT 4,H`, CB 64 (R650). -/
def execBit_4_H (s : State) : Out := bitTest 4 (.reg .h) s

/-- `BIT 4,L`, CB 65 (R650). -/
def execBit_4_L (s : State) : Out := bitTest 4 (.reg .l) s

/-- `BIT 4,(HL)`, CB 66 (R650). -/
def execBit_4_atHL (s : State) : Out := bitTest 4 .atHL s

/-- `BIT 4,A`, CB 67 (R650). -/
def execBit_4_A (s : State) : Out := bitTest 4 (.reg .a) s

/-- `BIT 5,B`, CB 68 (R650). -/
def execBit_5_B (s : State) : Out := bitTest 5 (.reg .b) s

/-- `BIT 5,C`, CB 69 (R650). -/
def execBit_5_C (s : State) : Out := bitTest 5 (.reg .c) s

/-- `BIT 5,D`, CB 6A (R650). -/
def execBit_5_D (s : State) : Out := bitTest 5 (.reg .d) s

/-- `BIT 5,E`, CB 6B (R650). -/
def execBit_5_E (s : State) : Out := bitTest 5 (.reg .e) s

/-- `BIT 5,H`, CB 6C (R650). -/
def execBit_5_H (s : State) : Out := bitTest 5 (.reg .h) s

/-- `BIT 5,L`, CB 6D (R650). -/
def execBit_5_L (s : State) : Out := bitTest 5 (.reg .l) s

/-- `BIT 5,(HL)`, CB 6E (R650). -/
def execBit_5_atHL (s : State) : Out := bitTest 5 .atHL s

/-- `BIT 5,A`, CB 6F (R650). -/
def execBit_5_A (s : State) : Out := bitTest 5 (.reg .a) s

/-- `BIT 6,B`, CB 70 (R650). -/
def execBit_6_B (s : State) : Out := bitTest 6 (.reg .b) s

/-- `BIT 6,C`, CB 71 (R650). -/
def execBit_6_C (s : State) : Out := bitTest 6 (.reg .c) s

/-- `BIT 6,D`, CB 72 (R650). -/
def execBit_6_D (s : State) : Out := bitTest 6 (.reg .d) s

/-- `BIT 6,E`, CB 73 (R650). -/
def execBit_6_E (s : State) : Out := bitTest 6 (.reg .e) s

/-- `BIT 6,H`, CB 74 (R650). -/
def execBit_6_H (s : State) : Out := bitTest 6 (.reg .h) s

/-- `BIT 6,L`, CB 75 (R650). -/
def execBit_6_L (s : State) : Out := bitTest 6 (.reg .l) s

/-- `BIT 6,(HL)`, CB 76 (R650). -/
def execBit_6_atHL (s : State) : Out := bitTest 6 .atHL s

/-- `BIT 6,A`, CB 77 (R650). -/
def execBit_6_A (s : State) : Out := bitTest 6 (.reg .a) s

/-- `BIT 7,B`, CB 78 (R650). -/
def execBit_7_B (s : State) : Out := bitTest 7 (.reg .b) s

/-- `BIT 7,C`, CB 79 (R650). -/
def execBit_7_C (s : State) : Out := bitTest 7 (.reg .c) s

/-- `BIT 7,D`, CB 7A (R650). -/
def execBit_7_D (s : State) : Out := bitTest 7 (.reg .d) s

/-- `BIT 7,E`, CB 7B (R650). -/
def execBit_7_E (s : State) : Out := bitTest 7 (.reg .e) s

/-- `BIT 7,H`, CB 7C (R650). -/
def execBit_7_H (s : State) : Out := bitTest 7 (.reg .h) s

/-- `BIT 7,L`, CB 7D (R650). -/
def execBit_7_L (s : State) : Out := bitTest 7 (.reg .l) s

/-- `BIT 7,(HL)`, CB 7E (R650). -/
def execBit_7_atHL (s : State) : Out := bitTest 7 .atHL s

/-- `BIT 7,A`, CB 7F (R650). -/
def execBit_7_A (s : State) : Out := bitTest 7 (.reg .a) s

/-- `RES 0,B`, CB 80 (R651). -/
def execRes_0_B (s : State) : Out := bitReset 0 (.reg .b) s

/-- `RES 0,C`, CB 81 (R651). -/
def execRes_0_C (s : State) : Out := bitReset 0 (.reg .c) s

/-- `RES 0,D`, CB 82 (R651). -/
def execRes_0_D (s : State) : Out := bitReset 0 (.reg .d) s

/-- `RES 0,E`, CB 83 (R651). -/
def execRes_0_E (s : State) : Out := bitReset 0 (.reg .e) s

/-- `RES 0,H`, CB 84 (R651). -/
def execRes_0_H (s : State) : Out := bitReset 0 (.reg .h) s

/-- `RES 0,L`, CB 85 (R651). -/
def execRes_0_L (s : State) : Out := bitReset 0 (.reg .l) s

/-- `RES 0,(HL)`, CB 86 (R651). -/
def execRes_0_atHL (s : State) : Out := bitReset 0 .atHL s

/-- `RES 0,A`, CB 87 (R651). -/
def execRes_0_A (s : State) : Out := bitReset 0 (.reg .a) s

/-- `RES 1,B`, CB 88 (R651). -/
def execRes_1_B (s : State) : Out := bitReset 1 (.reg .b) s

/-- `RES 1,C`, CB 89 (R651). -/
def execRes_1_C (s : State) : Out := bitReset 1 (.reg .c) s

/-- `RES 1,D`, CB 8A (R651). -/
def execRes_1_D (s : State) : Out := bitReset 1 (.reg .d) s

/-- `RES 1,E`, CB 8B (R651). -/
def execRes_1_E (s : State) : Out := bitReset 1 (.reg .e) s

/-- `RES 1,H`, CB 8C (R651). -/
def execRes_1_H (s : State) : Out := bitReset 1 (.reg .h) s

/-- `RES 1,L`, CB 8D (R651). -/
def execRes_1_L (s : State) : Out := bitReset 1 (.reg .l) s

/-- `RES 1,(HL)`, CB 8E (R651). -/
def execRes_1_atHL (s : State) : Out := bitReset 1 .atHL s

/-- `RES 1,A`, CB 8F (R651). -/
def execRes_1_A (s : State) : Out := bitReset 1 (.reg .a) s

/-- `RES 2,B`, CB 90 (R651). -/
def execRes_2_B (s : State) : Out := bitReset 2 (.reg .b) s

/-- `RES 2,C`, CB 91 (R651). -/
def execRes_2_C (s : State) : Out := bitReset 2 (.reg .c) s

/-- `RES 2,D`, CB 92 (R651). -/
def execRes_2_D (s : State) : Out := bitReset 2 (.reg .d) s

/-- `RES 2,E`, CB 93 (R651). -/
def execRes_2_E (s : State) : Out := bitReset 2 (.reg .e) s

/-- `RES 2,H`, CB 94 (R651). -/
def execRes_2_H (s : State) : Out := bitReset 2 (.reg .h) s

/-- `RES 2,L`, CB 95 (R651). -/
def execRes_2_L (s : State) : Out := bitReset 2 (.reg .l) s

/-- `RES 2,(HL)`, CB 96 (R651). -/
def execRes_2_atHL (s : State) : Out := bitReset 2 .atHL s

/-- `RES 2,A`, CB 97 (R651). -/
def execRes_2_A (s : State) : Out := bitReset 2 (.reg .a) s

/-- `RES 3,B`, CB 98 (R651). -/
def execRes_3_B (s : State) : Out := bitReset 3 (.reg .b) s

/-- `RES 3,C`, CB 99 (R651). -/
def execRes_3_C (s : State) : Out := bitReset 3 (.reg .c) s

/-- `RES 3,D`, CB 9A (R651). -/
def execRes_3_D (s : State) : Out := bitReset 3 (.reg .d) s

/-- `RES 3,E`, CB 9B (R651). -/
def execRes_3_E (s : State) : Out := bitReset 3 (.reg .e) s

/-- `RES 3,H`, CB 9C (R651). -/
def execRes_3_H (s : State) : Out := bitReset 3 (.reg .h) s

/-- `RES 3,L`, CB 9D (R651). -/
def execRes_3_L (s : State) : Out := bitReset 3 (.reg .l) s

/-- `RES 3,(HL)`, CB 9E (R651). -/
def execRes_3_atHL (s : State) : Out := bitReset 3 .atHL s

/-- `RES 3,A`, CB 9F (R651). -/
def execRes_3_A (s : State) : Out := bitReset 3 (.reg .a) s

/-- `RES 4,B`, CB A0 (R651). -/
def execRes_4_B (s : State) : Out := bitReset 4 (.reg .b) s

/-- `RES 4,C`, CB A1 (R651). -/
def execRes_4_C (s : State) : Out := bitReset 4 (.reg .c) s

/-- `RES 4,D`, CB A2 (R651). -/
def execRes_4_D (s : State) : Out := bitReset 4 (.reg .d) s

/-- `RES 4,E`, CB A3 (R651). -/
def execRes_4_E (s : State) : Out := bitReset 4 (.reg .e) s

/-- `RES 4,H`, CB A4 (R651). -/
def execRes_4_H (s : State) : Out := bitReset 4 (.reg .h) s

/-- `RES 4,L`, CB A5 (R651). -/
def execRes_4_L (s : State) : Out := bitReset 4 (.reg .l) s

/-- `RES 4,(HL)`, CB A6 (R651). -/
def execRes_4_atHL (s : State) : Out := bitReset 4 .atHL s

/-- `RES 4,A`, CB A7 (R651). -/
def execRes_4_A (s : State) : Out := bitReset 4 (.reg .a) s

/-- `RES 5,B`, CB A8 (R651). -/
def execRes_5_B (s : State) : Out := bitReset 5 (.reg .b) s

/-- `RES 5,C`, CB A9 (R651). -/
def execRes_5_C (s : State) : Out := bitReset 5 (.reg .c) s

/-- `RES 5,D`, CB AA (R651). -/
def execRes_5_D (s : State) : Out := bitReset 5 (.reg .d) s

/-- `RES 5,E`, CB AB (R651). -/
def execRes_5_E (s : State) : Out := bitReset 5 (.reg .e) s

/-- `RES 5,H`, CB AC (R651). -/
def execRes_5_H (s : State) : Out := bitReset 5 (.reg .h) s

/-- `RES 5,L`, CB AD (R651). -/
def execRes_5_L (s : State) : Out := bitReset 5 (.reg .l) s

/-- `RES 5,(HL)`, CB AE (R651). -/
def execRes_5_atHL (s : State) : Out := bitReset 5 .atHL s

/-- `RES 5,A`, CB AF (R651). -/
def execRes_5_A (s : State) : Out := bitReset 5 (.reg .a) s

/-- `RES 6,B`, CB B0 (R651). -/
def execRes_6_B (s : State) : Out := bitReset 6 (.reg .b) s

/-- `RES 6,C`, CB B1 (R651). -/
def execRes_6_C (s : State) : Out := bitReset 6 (.reg .c) s

/-- `RES 6,D`, CB B2 (R651). -/
def execRes_6_D (s : State) : Out := bitReset 6 (.reg .d) s

/-- `RES 6,E`, CB B3 (R651). -/
def execRes_6_E (s : State) : Out := bitReset 6 (.reg .e) s

/-- `RES 6,H`, CB B4 (R651). -/
def execRes_6_H (s : State) : Out := bitReset 6 (.reg .h) s

/-- `RES 6,L`, CB B5 (R651). -/
def execRes_6_L (s : State) : Out := bitReset 6 (.reg .l) s

/-- `RES 6,(HL)`, CB B6 (R651). -/
def execRes_6_atHL (s : State) : Out := bitReset 6 .atHL s

/-- `RES 6,A`, CB B7 (R651). -/
def execRes_6_A (s : State) : Out := bitReset 6 (.reg .a) s

/-- `RES 7,B`, CB B8 (R651). -/
def execRes_7_B (s : State) : Out := bitReset 7 (.reg .b) s

/-- `RES 7,C`, CB B9 (R651). -/
def execRes_7_C (s : State) : Out := bitReset 7 (.reg .c) s

/-- `RES 7,D`, CB BA (R651). -/
def execRes_7_D (s : State) : Out := bitReset 7 (.reg .d) s

/-- `RES 7,E`, CB BB (R651). -/
def execRes_7_E (s : State) : Out := bitReset 7 (.reg .e) s

/-- `RES 7,H`, CB BC (R651). -/
def execRes_7_H (s : State) : Out := bitReset 7 (.reg .h) s

/-- `RES 7,L`, CB BD (R651). -/
def execRes_7_L (s : State) : Out := bitReset 7 (.reg .l) s

/-- `RES 7,(HL)`, CB BE (R651). -/
def execRes_7_atHL (s : State) : Out := bitReset 7 .atHL s

/-- `RES 7,A`, CB BF (R651). -/
def execRes_7_A (s : State) : Out := bitReset 7 (.reg .a) s

/-- `SET 0,B`, CB C0 (R652). -/
def execSet_0_B (s : State) : Out := bitSet 0 (.reg .b) s

/-- `SET 0,C`, CB C1 (R652). -/
def execSet_0_C (s : State) : Out := bitSet 0 (.reg .c) s

/-- `SET 0,D`, CB C2 (R652). -/
def execSet_0_D (s : State) : Out := bitSet 0 (.reg .d) s

/-- `SET 0,E`, CB C3 (R652). -/
def execSet_0_E (s : State) : Out := bitSet 0 (.reg .e) s

/-- `SET 0,H`, CB C4 (R652). -/
def execSet_0_H (s : State) : Out := bitSet 0 (.reg .h) s

/-- `SET 0,L`, CB C5 (R652). -/
def execSet_0_L (s : State) : Out := bitSet 0 (.reg .l) s

/-- `SET 0,(HL)`, CB C6 (R652). -/
def execSet_0_atHL (s : State) : Out := bitSet 0 .atHL s

/-- `SET 0,A`, CB C7 (R652). -/
def execSet_0_A (s : State) : Out := bitSet 0 (.reg .a) s

/-- `SET 1,B`, CB C8 (R652). -/
def execSet_1_B (s : State) : Out := bitSet 1 (.reg .b) s

/-- `SET 1,C`, CB C9 (R652). -/
def execSet_1_C (s : State) : Out := bitSet 1 (.reg .c) s

/-- `SET 1,D`, CB CA (R652). -/
def execSet_1_D (s : State) : Out := bitSet 1 (.reg .d) s

/-- `SET 1,E`, CB CB (R652). -/
def execSet_1_E (s : State) : Out := bitSet 1 (.reg .e) s

/-- `SET 1,H`, CB CC (R652). -/
def execSet_1_H (s : State) : Out := bitSet 1 (.reg .h) s

/-- `SET 1,L`, CB CD (R652). -/
def execSet_1_L (s : State) : Out := bitSet 1 (.reg .l) s

/-- `SET 1,(HL)`, CB CE (R652). -/
def execSet_1_atHL (s : State) : Out := bitSet 1 .atHL s

/-- `SET 1,A`, CB CF (R652). -/
def execSet_1_A (s : State) : Out := bitSet 1 (.reg .a) s

/-- `SET 2,B`, CB D0 (R652). -/
def execSet_2_B (s : State) : Out := bitSet 2 (.reg .b) s

/-- `SET 2,C`, CB D1 (R652). -/
def execSet_2_C (s : State) : Out := bitSet 2 (.reg .c) s

/-- `SET 2,D`, CB D2 (R652). -/
def execSet_2_D (s : State) : Out := bitSet 2 (.reg .d) s

/-- `SET 2,E`, CB D3 (R652). -/
def execSet_2_E (s : State) : Out := bitSet 2 (.reg .e) s

/-- `SET 2,H`, CB D4 (R652). -/
def execSet_2_H (s : State) : Out := bitSet 2 (.reg .h) s

/-- `SET 2,L`, CB D5 (R652). -/
def execSet_2_L (s : State) : Out := bitSet 2 (.reg .l) s

/-- `SET 2,(HL)`, CB D6 (R652). -/
def execSet_2_atHL (s : State) : Out := bitSet 2 .atHL s

/-- `SET 2,A`, CB D7 (R652). -/
def execSet_2_A (s : State) : Out := bitSet 2 (.reg .a) s

/-- `SET 3,B`, CB D8 (R652). -/
def execSet_3_B (s : State) : Out := bitSet 3 (.reg .b) s

/-- `SET 3,C`, CB D9 (R652). -/
def execSet_3_C (s : State) : Out := bitSet 3 (.reg .c) s

/-- `SET 3,D`, CB DA (R652). -/
def execSet_3_D (s : State) : Out := bitSet 3 (.reg .d) s

/-- `SET 3,E`, CB DB (R652). -/
def execSet_3_E (s : State) : Out := bitSet 3 (.reg .e) s

/-- `SET 3,H`, CB DC (R652). -/
def execSet_3_H (s : State) : Out := bitSet 3 (.reg .h) s

/-- `SET 3,L`, CB DD (R652). -/
def execSet_3_L (s : State) : Out := bitSet 3 (.reg .l) s

/-- `SET 3,(HL)`, CB DE (R652). -/
def execSet_3_atHL (s : State) : Out := bitSet 3 .atHL s

/-- `SET 3,A`, CB DF (R652). -/
def execSet_3_A (s : State) : Out := bitSet 3 (.reg .a) s

/-- `SET 4,B`, CB E0 (R652). -/
def execSet_4_B (s : State) : Out := bitSet 4 (.reg .b) s

/-- `SET 4,C`, CB E1 (R652). -/
def execSet_4_C (s : State) : Out := bitSet 4 (.reg .c) s

/-- `SET 4,D`, CB E2 (R652). -/
def execSet_4_D (s : State) : Out := bitSet 4 (.reg .d) s

/-- `SET 4,E`, CB E3 (R652). -/
def execSet_4_E (s : State) : Out := bitSet 4 (.reg .e) s

/-- `SET 4,H`, CB E4 (R652). -/
def execSet_4_H (s : State) : Out := bitSet 4 (.reg .h) s

/-- `SET 4,L`, CB E5 (R652). -/
def execSet_4_L (s : State) : Out := bitSet 4 (.reg .l) s

/-- `SET 4,(HL)`, CB E6 (R652). -/
def execSet_4_atHL (s : State) : Out := bitSet 4 .atHL s

/-- `SET 4,A`, CB E7 (R652). -/
def execSet_4_A (s : State) : Out := bitSet 4 (.reg .a) s

/-- `SET 5,B`, CB E8 (R652). -/
def execSet_5_B (s : State) : Out := bitSet 5 (.reg .b) s

/-- `SET 5,C`, CB E9 (R652). -/
def execSet_5_C (s : State) : Out := bitSet 5 (.reg .c) s

/-- `SET 5,D`, CB EA (R652). -/
def execSet_5_D (s : State) : Out := bitSet 5 (.reg .d) s

/-- `SET 5,E`, CB EB (R652). -/
def execSet_5_E (s : State) : Out := bitSet 5 (.reg .e) s

/-- `SET 5,H`, CB EC (R652). -/
def execSet_5_H (s : State) : Out := bitSet 5 (.reg .h) s

/-- `SET 5,L`, CB ED (R652). -/
def execSet_5_L (s : State) : Out := bitSet 5 (.reg .l) s

/-- `SET 5,(HL)`, CB EE (R652). -/
def execSet_5_atHL (s : State) : Out := bitSet 5 .atHL s

/-- `SET 5,A`, CB EF (R652). -/
def execSet_5_A (s : State) : Out := bitSet 5 (.reg .a) s

/-- `SET 6,B`, CB F0 (R652). -/
def execSet_6_B (s : State) : Out := bitSet 6 (.reg .b) s

/-- `SET 6,C`, CB F1 (R652). -/
def execSet_6_C (s : State) : Out := bitSet 6 (.reg .c) s

/-- `SET 6,D`, CB F2 (R652). -/
def execSet_6_D (s : State) : Out := bitSet 6 (.reg .d) s

/-- `SET 6,E`, CB F3 (R652). -/
def execSet_6_E (s : State) : Out := bitSet 6 (.reg .e) s

/-- `SET 6,H`, CB F4 (R652). -/
def execSet_6_H (s : State) : Out := bitSet 6 (.reg .h) s

/-- `SET 6,L`, CB F5 (R652). -/
def execSet_6_L (s : State) : Out := bitSet 6 (.reg .l) s

/-- `SET 6,(HL)`, CB F6 (R652). -/
def execSet_6_atHL (s : State) : Out := bitSet 6 .atHL s

/-- `SET 6,A`, CB F7 (R652). -/
def execSet_6_A (s : State) : Out := bitSet 6 (.reg .a) s

/-- `SET 7,B`, CB F8 (R652). -/
def execSet_7_B (s : State) : Out := bitSet 7 (.reg .b) s

/-- `SET 7,C`, CB F9 (R652). -/
def execSet_7_C (s : State) : Out := bitSet 7 (.reg .c) s

/-- `SET 7,D`, CB FA (R652). -/
def execSet_7_D (s : State) : Out := bitSet 7 (.reg .d) s

/-- `SET 7,E`, CB FB (R652). -/
def execSet_7_E (s : State) : Out := bitSet 7 (.reg .e) s

/-- `SET 7,H`, CB FC (R652). -/
def execSet_7_H (s : State) : Out := bitSet 7 (.reg .h) s

/-- `SET 7,L`, CB FD (R652). -/
def execSet_7_L (s : State) : Out := bitSet 7 (.reg .l) s

/-- `SET 7,(HL)`, CB FE (R652). -/
def execSet_7_atHL (s : State) : Out := bitSet 7 .atHL s

/-- `SET 7,A`, CB FF (R652). -/
def execSet_7_A (s : State) : Out := bitSet 7 (.reg .a) s

end Sys2Proof.Machine
end

