-- ==== Sys2Proof/Machine/Control.lean ====
section
/-! DEFINITION. Control transfer (46_control.md R700 to R710). No flag is written. PC already addresses the next instruction. -/

namespace Sys2Proof.Machine

/-- `pc <- t` (R700, R702, R703). -/
def jump (t : Word) (s : State) : Out := .next (s.setPc t)

/-- `if cond(cc): pc <- t` (R701, R704). -/
def jumpIf (cc : Cond) (t : Word) (s : State) : Out := if s.regs.holds cc then jump t s else .next s

/-- `push16(pc); pc <- t` (R705, R710). -/
def call (t : Word) (s : State) : Out := push16 s s.regs.pc fun s1 => .next (s1.setPc t)

/-- `if cond(cc): push16(pc); pc <- t` (R706). -/
def callIf (cc : Cond) (t : Word) (s : State) : Out := if s.regs.holds cc then call t s else .next s

/-- `pc <- pop16()` (R707). -/
def ret (s : State) : Out := pop16 s fun v s1 => .next (s1.setPc v)

/-- `if cond(cc): pc <- pop16()` (R708). -/
def retIf (cc : Cond) (s : State) : Out := if s.regs.holds cc then ret s else .next s

/-- `JR r8`, 18 (R703). -/
def execJr_r8 (v : Byte) (s : State) : Out := jump (relativeTarget s v) s

/-- `JR NZ,r8`, 20 (R704). -/
def execJr_NZ_r8 (v : Byte) (s : State) : Out := jumpIf .nz (relativeTarget s v) s

/-- `JR Z,r8`, 28 (R704). -/
def execJr_Z_r8 (v : Byte) (s : State) : Out := jumpIf .z (relativeTarget s v) s

/-- `JR NC,r8`, 30 (R704). -/
def execJr_NC_r8 (v : Byte) (s : State) : Out := jumpIf .nc (relativeTarget s v) s

/-- `JR C,r8`, 38 (R704). -/
def execJr_C_r8 (v : Byte) (s : State) : Out := jumpIf .c (relativeTarget s v) s

/-- `RET NZ`, C0 (R708). -/
def execRet_NZ (s : State) : Out := retIf .nz s

/-- `JP NZ,a16`, C2 (R701). -/
def execJp_NZ_a16 (v : Word) (s : State) : Out := jumpIf .nz v s

/-- `JP a16`, C3 (R700). -/
def execJp_a16 (v : Word) (s : State) : Out := jump v s

/-- `CALL NZ,a16`, C4 (R706). -/
def execCall_NZ_a16 (v : Word) (s : State) : Out := callIf .nz v s

/-- `RST 00h`, C7 (R710). -/
def execRst_00h (s : State) : Out := call (restartTarget 0) s

/-- `RET Z`, C8 (R708). -/
def execRet_Z (s : State) : Out := retIf .z s

/-- `RET`, C9 (R707). -/
def execRet (s : State) : Out := ret s

/-- `JP Z,a16`, CA (R701). -/
def execJp_Z_a16 (v : Word) (s : State) : Out := jumpIf .z v s

/-- `CALL Z,a16`, CC (R706). -/
def execCall_Z_a16 (v : Word) (s : State) : Out := callIf .z v s

/-- `CALL a16`, CD (R705). -/
def execCall_a16 (v : Word) (s : State) : Out := call v s

/-- `RST 08h`, CF (R710). -/
def execRst_08h (s : State) : Out := call (restartTarget 1) s

/-- `RET NC`, D0 (R708). -/
def execRet_NC (s : State) : Out := retIf .nc s

/-- `JP NC,a16`, D2 (R701). -/
def execJp_NC_a16 (v : Word) (s : State) : Out := jumpIf .nc v s

/-- `CALL NC,a16`, D4 (R706). -/
def execCall_NC_a16 (v : Word) (s : State) : Out := callIf .nc v s

/-- `RST 10h`, D7 (R710). -/
def execRst_10h (s : State) : Out := call (restartTarget 2) s

/-- `RET C`, D8 (R708). -/
def execRet_C (s : State) : Out := retIf .c s

/-- `RETI`, D9 (R709). -/
def execReti (s : State) : Out := returnFromInterrupt s

/-- `JP C,a16`, DA (R701). -/
def execJp_C_a16 (v : Word) (s : State) : Out := jumpIf .c v s

/-- `CALL C,a16`, DC (R706). -/
def execCall_C_a16 (v : Word) (s : State) : Out := callIf .c v s

/-- `RST 18h`, DF (R710). -/
def execRst_18h (s : State) : Out := call (restartTarget 3) s

/-- `RST 20h`, E7 (R710). -/
def execRst_20h (s : State) : Out := call (restartTarget 4) s

/-- `JP HL`, E9 (R702). -/
def execJp_HL (s : State) : Out := jump s.regs.hl s

/-- `RST 28h`, EF (R710). -/
def execRst_28h (s : State) : Out := call (restartTarget 5) s

/-- `RST 30h`, F7 (R710). -/
def execRst_30h (s : State) : Out := call (restartTarget 6) s

/-- `RST 38h`, FF (R710). -/
def execRst_38h (s : State) : Out := call (restartTarget 7) s

end Sys2Proof.Machine
end

