-- ==== Sys2Proof/Machine/Load16.lean ====
section
/-! DEFINITION. The 16-bit loads and the stack instructions (41_load16.md R451 to R457). -/

namespace Sys2Proof.Machine

/-- `LD dd,d16` (R451). -/
def loadPairImm (p : Pair) (v : Word) (s : State) : Out := .next (s.setPair p v)

/-- `LD (a16),SP` (R452). -/
def storeSp (addr : Word) (s : State) : Out := writeWord s addr s.regs.sp fun s1 => .next s1

/-- `LD SP,HL` (R453). -/
def loadSpHl (s : State) : Out := .next (s.setSp s.regs.hl)

/-- `LD HL,SP+r8` (R454): Z and N are 0. -/
def loadHlSp (e : Byte) (s : State) : Out :=
  let r := spPlusR8 s.regs.sp e
  .next ((s.setPair .hl r.value).setFlags false false r.h r.c)

/-- `PUSH qq` (R455). -/
def pushPair (q : StackPair) (s : State) : Out := push16 s (s.regs.stackPair q) fun s1 => .next s1

/-- `POP qq` (R456, R457). -/
def popPair (q : StackPair) (s : State) : Out := pop16 s fun v s1 => .next (s1.setStackPair q v)

/-- `LD BC,d16`, 01 (R451). -/
def execLd_BC_d16 (v : Word) (s : State) : Out := loadPairImm .bc v s

/-- `LD (a16),SP`, 08 (R452). -/
def execLd_atA16_SP (v : Word) (s : State) : Out := storeSp v s

/-- `LD DE,d16`, 11 (R451). -/
def execLd_DE_d16 (v : Word) (s : State) : Out := loadPairImm .de v s

/-- `LD HL,d16`, 21 (R451). -/
def execLd_HL_d16 (v : Word) (s : State) : Out := loadPairImm .hl v s

/-- `LD SP,d16`, 31 (R451). -/
def execLd_SP_d16 (v : Word) (s : State) : Out := loadPairImm .sp v s

/-- `POP BC`, C1 (R456). -/
def execPop_BC (s : State) : Out := popPair .bc s

/-- `PUSH BC`, C5 (R455). -/
def execPush_BC (s : State) : Out := pushPair .bc s

/-- `POP DE`, D1 (R456). -/
def execPop_DE (s : State) : Out := popPair .de s

/-- `PUSH DE`, D5 (R455). -/
def execPush_DE (s : State) : Out := pushPair .de s

/-- `POP HL`, E1 (R456). -/
def execPop_HL (s : State) : Out := popPair .hl s

/-- `PUSH HL`, E5 (R455). -/
def execPush_HL (s : State) : Out := pushPair .hl s

/-- `POP AF`, F1 (R457). -/
def execPop_AF (s : State) : Out := popPair .af s

/-- `PUSH AF`, F5 (R455). -/
def execPush_AF (s : State) : Out := pushPair .af s

/-- `LD HL,SP+r8`, F8 (R454). -/
def execLd_HL_SPr8 (v : Byte) (s : State) : Out := loadHlSp v s

/-- `LD SP,HL`, F9 (R453). -/
def execLd_SP_HL (s : State) : Out := loadSpHl s

end Sys2Proof.Machine
end

