-- ==== Sys2Proof/Machine/Load8.lean ====
section
/-! DEFINITION. The 8-bit loads (40_load8.md R400 to R416). None writes a flag. Above, the shared operations; below, one
meaning per row. -/

namespace Sys2Proof.Machine

/-- `x[d] <- x[s]` (R400). -/
def loadReg (dst src : Reg8) (s : State) : Out := .next (s.setReg8 dst (s.regs.get8 src))

/-- `x[d] <- v` (R401). -/
def loadImm (dst : Reg8) (v : Byte) (s : State) : Out := .next (s.setReg8 dst v)

/-- `v <- MemRead(addr, 1); x[d] <- v` (R402, R405, R411, R413, R415). -/
def loadFrom (dst : Reg8) (addr : Word) (s : State) : Out := readByte s addr fun v => .next (s.setReg8 dst v)

/-- `MemWrite(addr, 1, v)` (R403, R404, R406, R412, R414, R416). -/
def storeTo (addr : Word) (v : Byte) (s : State) : Out := writeByte s addr v fun s1 => .next s1

/-- Load A from (HL), then add `delta` to HL (R407, R408). -/
def loadStep (delta : Word) (s : State) : Out :=
  readByte s s.regs.hl fun v => .next ((s.setReg8 .a v).setPair .hl (s.regs.hl + delta))

/-- Store A to (HL), then add `delta` to HL (R409, R410). -/
def storeStep (delta : Word) (s : State) : Out :=
  writeByte s s.regs.hl s.regs.a fun s1 => .next (s1.setPair .hl (s1.regs.hl + delta))

/-- `LD (BC),A`, 02 (R406). -/
def execLd_atBC_A (s : State) : Out := storeTo (s.regs.pair .bc) s.regs.a s

/-- `LD B,d8`, 06 (R401). -/
def execLd_B_d8 (v : Byte) (s : State) : Out := loadImm .b v s

/-- `LD A,(BC)`, 0A (R405). -/
def execLd_A_atBC (s : State) : Out := loadFrom .a (s.regs.pair .bc) s

/-- `LD C,d8`, 0E (R401). -/
def execLd_C_d8 (v : Byte) (s : State) : Out := loadImm .c v s

/-- `LD (DE),A`, 12 (R406). -/
def execLd_atDE_A (s : State) : Out := storeTo (s.regs.pair .de) s.regs.a s

/-- `LD D,d8`, 16 (R401). -/
def execLd_D_d8 (v : Byte) (s : State) : Out := loadImm .d v s

/-- `LD A,(DE)`, 1A (R405). -/
def execLd_A_atDE (s : State) : Out := loadFrom .a (s.regs.pair .de) s

/-- `LD E,d8`, 1E (R401). -/
def execLd_E_d8 (v : Byte) (s : State) : Out := loadImm .e v s

/-- `LD (HL+),A`, 22 (R409). -/
def execLd_atHLI_A (s : State) : Out := storeStep 1 s

/-- `LD H,d8`, 26 (R401). -/
def execLd_H_d8 (v : Byte) (s : State) : Out := loadImm .h v s

/-- `LD A,(HL+)`, 2A (R407). -/
def execLd_A_atHLI (s : State) : Out := loadStep 1 s

/-- `LD L,d8`, 2E (R401). -/
def execLd_L_d8 (v : Byte) (s : State) : Out := loadImm .l v s

/-- `LD (HL-),A`, 32 (R410). -/
def execLd_atHLD_A (s : State) : Out := storeStep (-1) s

/-- `LD (HL),d8`, 36 (R404). -/
def execLd_atHL_d8 (v : Byte) (s : State) : Out := storeTo s.regs.hl v s

/-- `LD A,(HL-)`, 3A (R408). -/
def execLd_A_atHLD (s : State) : Out := loadStep (-1) s

/-- `LD A,d8`, 3E (R401). -/
def execLd_A_d8 (v : Byte) (s : State) : Out := loadImm .a v s

/-- `LD B,B`, 40 (R400). -/
def execLd_B_B (s : State) : Out := loadReg .b .b s

/-- `LD B,C`, 41 (R400). -/
def execLd_B_C (s : State) : Out := loadReg .b .c s

/-- `LD B,D`, 42 (R400). -/
def execLd_B_D (s : State) : Out := loadReg .b .d s

/-- `LD B,E`, 43 (R400). -/
def execLd_B_E (s : State) : Out := loadReg .b .e s

/-- `LD B,H`, 44 (R400). -/
def execLd_B_H (s : State) : Out := loadReg .b .h s

/-- `LD B,L`, 45 (R400). -/
def execLd_B_L (s : State) : Out := loadReg .b .l s

/-- `LD B,(HL)`, 46 (R402). -/
def execLd_B_atHL (s : State) : Out := loadFrom .b s.regs.hl s

/-- `LD B,A`, 47 (R400). -/
def execLd_B_A (s : State) : Out := loadReg .b .a s

/-- `LD C,B`, 48 (R400). -/
def execLd_C_B (s : State) : Out := loadReg .c .b s

/-- `LD C,C`, 49 (R400). -/
def execLd_C_C (s : State) : Out := loadReg .c .c s

/-- `LD C,D`, 4A (R400). -/
def execLd_C_D (s : State) : Out := loadReg .c .d s

/-- `LD C,E`, 4B (R400). -/
def execLd_C_E (s : State) : Out := loadReg .c .e s

/-- `LD C,H`, 4C (R400). -/
def execLd_C_H (s : State) : Out := loadReg .c .h s

/-- `LD C,L`, 4D (R400). -/
def execLd_C_L (s : State) : Out := loadReg .c .l s

/-- `LD C,(HL)`, 4E (R402). -/
def execLd_C_atHL (s : State) : Out := loadFrom .c s.regs.hl s

/-- `LD C,A`, 4F (R400). -/
def execLd_C_A (s : State) : Out := loadReg .c .a s

/-- `LD D,B`, 50 (R400). -/
def execLd_D_B (s : State) : Out := loadReg .d .b s

/-- `LD D,C`, 51 (R400). -/
def execLd_D_C (s : State) : Out := loadReg .d .c s

/-- `LD D,D`, 52 (R400). -/
def execLd_D_D (s : State) : Out := loadReg .d .d s

/-- `LD D,E`, 53 (R400). -/
def execLd_D_E (s : State) : Out := loadReg .d .e s

/-- `LD D,H`, 54 (R400). -/
def execLd_D_H (s : State) : Out := loadReg .d .h s

/-- `LD D,L`, 55 (R400). -/
def execLd_D_L (s : State) : Out := loadReg .d .l s

/-- `LD D,(HL)`, 56 (R402). -/
def execLd_D_atHL (s : State) : Out := loadFrom .d s.regs.hl s

/-- `LD D,A`, 57 (R400). -/
def execLd_D_A (s : State) : Out := loadReg .d .a s

/-- `LD E,B`, 58 (R400). -/
def execLd_E_B (s : State) : Out := loadReg .e .b s

/-- `LD E,C`, 59 (R400). -/
def execLd_E_C (s : State) : Out := loadReg .e .c s

/-- `LD E,D`, 5A (R400). -/
def execLd_E_D (s : State) : Out := loadReg .e .d s

/-- `LD E,E`, 5B (R400). -/
def execLd_E_E (s : State) : Out := loadReg .e .e s

/-- `LD E,H`, 5C (R400). -/
def execLd_E_H (s : State) : Out := loadReg .e .h s

/-- `LD E,L`, 5D (R400). -/
def execLd_E_L (s : State) : Out := loadReg .e .l s

/-- `LD E,(HL)`, 5E (R402). -/
def execLd_E_atHL (s : State) : Out := loadFrom .e s.regs.hl s

/-- `LD E,A`, 5F (R400). -/
def execLd_E_A (s : State) : Out := loadReg .e .a s

/-- `LD H,B`, 60 (R400). -/
def execLd_H_B (s : State) : Out := loadReg .h .b s

/-- `LD H,C`, 61 (R400). -/
def execLd_H_C (s : State) : Out := loadReg .h .c s

/-- `LD H,D`, 62 (R400). -/
def execLd_H_D (s : State) : Out := loadReg .h .d s

/-- `LD H,E`, 63 (R400). -/
def execLd_H_E (s : State) : Out := loadReg .h .e s

/-- `LD H,H`, 64 (R400). -/
def execLd_H_H (s : State) : Out := loadReg .h .h s

/-- `LD H,L`, 65 (R400). -/
def execLd_H_L (s : State) : Out := loadReg .h .l s

/-- `LD H,(HL)`, 66 (R402). -/
def execLd_H_atHL (s : State) : Out := loadFrom .h s.regs.hl s

/-- `LD H,A`, 67 (R400). -/
def execLd_H_A (s : State) : Out := loadReg .h .a s

/-- `LD L,B`, 68 (R400). -/
def execLd_L_B (s : State) : Out := loadReg .l .b s

/-- `LD L,C`, 69 (R400). -/
def execLd_L_C (s : State) : Out := loadReg .l .c s

/-- `LD L,D`, 6A (R400). -/
def execLd_L_D (s : State) : Out := loadReg .l .d s

/-- `LD L,E`, 6B (R400). -/
def execLd_L_E (s : State) : Out := loadReg .l .e s

/-- `LD L,H`, 6C (R400). -/
def execLd_L_H (s : State) : Out := loadReg .l .h s

/-- `LD L,L`, 6D (R400). -/
def execLd_L_L (s : State) : Out := loadReg .l .l s

/-- `LD L,(HL)`, 6E (R402). -/
def execLd_L_atHL (s : State) : Out := loadFrom .l s.regs.hl s

/-- `LD L,A`, 6F (R400). -/
def execLd_L_A (s : State) : Out := loadReg .l .a s

/-- `LD (HL),B`, 70 (R403). -/
def execLd_atHL_B (s : State) : Out := storeTo s.regs.hl (s.regs.get8 .b) s

/-- `LD (HL),C`, 71 (R403). -/
def execLd_atHL_C (s : State) : Out := storeTo s.regs.hl (s.regs.get8 .c) s

/-- `LD (HL),D`, 72 (R403). -/
def execLd_atHL_D (s : State) : Out := storeTo s.regs.hl (s.regs.get8 .d) s

/-- `LD (HL),E`, 73 (R403). -/
def execLd_atHL_E (s : State) : Out := storeTo s.regs.hl (s.regs.get8 .e) s

/-- `LD (HL),H`, 74 (R403). -/
def execLd_atHL_H (s : State) : Out := storeTo s.regs.hl (s.regs.get8 .h) s

/-- `LD (HL),L`, 75 (R403). -/
def execLd_atHL_L (s : State) : Out := storeTo s.regs.hl (s.regs.get8 .l) s

/-- `LD (HL),A`, 77 (R403). -/
def execLd_atHL_A (s : State) : Out := storeTo s.regs.hl (s.regs.get8 .a) s

/-- `LD A,B`, 78 (R400). -/
def execLd_A_B (s : State) : Out := loadReg .a .b s

/-- `LD A,C`, 79 (R400). -/
def execLd_A_C (s : State) : Out := loadReg .a .c s

/-- `LD A,D`, 7A (R400). -/
def execLd_A_D (s : State) : Out := loadReg .a .d s

/-- `LD A,E`, 7B (R400). -/
def execLd_A_E (s : State) : Out := loadReg .a .e s

/-- `LD A,H`, 7C (R400). -/
def execLd_A_H (s : State) : Out := loadReg .a .h s

/-- `LD A,L`, 7D (R400). -/
def execLd_A_L (s : State) : Out := loadReg .a .l s

/-- `LD A,(HL)`, 7E (R402). -/
def execLd_A_atHL (s : State) : Out := loadFrom .a s.regs.hl s

/-- `LD A,A`, 7F (R400). -/
def execLd_A_A (s : State) : Out := loadReg .a .a s

/-- `LDH (a8),A`, E0 (R414). -/
def execLdh_atA8_A (v : Byte) (s : State) : Out := storeTo (highPage v) s.regs.a s

/-- `LD (C),A`, E2 (R416). -/
def execLd_atC_A (s : State) : Out := storeTo (highPage s.regs.c) s.regs.a s

/-- `LD (a16),A`, EA (R412). -/
def execLd_atA16_A (v : Word) (s : State) : Out := storeTo v s.regs.a s

/-- `LDH A,(a8)`, F0 (R413). -/
def execLdh_A_atA8 (v : Byte) (s : State) : Out := loadFrom .a (highPage v) s

/-- `LD A,(C)`, F2 (R415). -/
def execLd_A_atC (s : State) : Out := loadFrom .a (highPage s.regs.c) s

/-- `LD A,(a16)`, FA (R411). -/
def execLd_A_atA16 (v : Word) (s : State) : Out := loadFrom .a v s

end Sys2Proof.Machine
end

