-- ==== Sys2Proof/Machine/Misc.lean ====
section
/-! DEFINITION. DAA, the flag instructions, NOP, HALT, STOP, DI, EI (47_misc.md R750 to R758) and the eleven undefined opcodes
(30_encoding.md R312). HALT and STOP are no-ops by R755 and R756; STOP's second byte is its ignored immediate. -/

namespace Sys2Proof.Machine

/-- `DAA` (R750): N is kept. -/
def decimalAdjust (s : State) : Out :=
  let r := daaResult s.regs.a s.regs.flagN s.regs.flagH s.regs.flagC
  .next ((s.setReg8 .a r.value).setFlags (decide (r.value = 0)) s.regs.flagN false r.c)

/-- `CPL` (R751): Z and C are kept. -/
def complementA (s : State) : Out :=
  .next ((s.setReg8 .a (~~~s.regs.a)).setFlags s.regs.flagZ true true s.regs.flagC)

/-- `SCF` (R752): Z is kept. -/
def setCarry (s : State) : Out := .next (s.setFlags s.regs.flagZ false false true)

/-- `CCF` (R753): Z is kept. -/
def complementCarry (s : State) : Out := .next (s.setFlags s.regs.flagZ false false (!s.regs.flagC))

/-- An undefined opcode (R312): the fault *InvalidCpuInstruction* with the opcode byte; nothing else changes. -/
def undefinedOpcode (op : Byte) (s : State) : Out :=
  raiseFault s { kind := .invalidCpuInstruction, info := zext16 op }

/-- `NOP`, 00 (R754). -/
def execNop (s : State) : Out := .next s

/-- `STOP`, 10 (R756). -/
def execStop (_v : Byte) (s : State) : Out := .next s

/-- `DAA`, 27 (R750). -/
def execDaa (s : State) : Out := decimalAdjust s

/-- `CPL`, 2F (R751). -/
def execCpl (s : State) : Out := complementA s

/-- `SCF`, 37 (R752). -/
def execScf (s : State) : Out := setCarry s

/-- `CCF`, 3F (R753). -/
def execCcf (s : State) : Out := complementCarry s

/-- `HALT`, 76 (R755). -/
def execHalt (s : State) : Out := .next s

/-- `undefined opcode`, D3 (R312). -/
def execUndefined_D3 (s : State) : Out := undefinedOpcode 0xD3 s

/-- `undefined opcode`, DB (R312). -/
def execUndefined_DB (s : State) : Out := undefinedOpcode 0xDB s

/-- `undefined opcode`, DD (R312). -/
def execUndefined_DD (s : State) : Out := undefinedOpcode 0xDD s

/-- `undefined opcode`, E3 (R312). -/
def execUndefined_E3 (s : State) : Out := undefinedOpcode 0xE3 s

/-- `undefined opcode`, E4 (R312). -/
def execUndefined_E4 (s : State) : Out := undefinedOpcode 0xE4 s

/-- `undefined opcode`, EB (R312). -/
def execUndefined_EB (s : State) : Out := undefinedOpcode 0xEB s

/-- `undefined opcode`, EC (R312). -/
def execUndefined_EC (s : State) : Out := undefinedOpcode 0xEC s

/-- `undefined opcode`, ED (R312). -/
def execUndefined_ED (s : State) : Out := undefinedOpcode 0xED s

/-- `DI`, F3 (R757). -/
def execDi (s : State) : Out := .next (s.setIme false)

/-- `undefined opcode`, F4 (R312). -/
def execUndefined_F4 (s : State) : Out := undefinedOpcode 0xF4 s

/-- `EI`, FB (R758). -/
def execEi (s : State) : Out := .next (s.setIme true)

/-- `undefined opcode`, FC (R312). -/
def execUndefined_FC (s : State) : Out := undefinedOpcode 0xFC s

/-- `undefined opcode`, FD (R312). -/
def execUndefined_FD (s : State) : Out := undefinedOpcode 0xFD s

end Sys2Proof.Machine
end

