-- ==== Sys2Proof/Machine/Rotate.lean ====
section
/-! DEFINITION. The rotates, shifts and SWAP (44_rotate_shift.md R600 to R611). -/

namespace Sys2Proof.Machine

/-- An accumulator rotate (R600 to R603): Z is always 0. -/
def rotA (op : RotOp) (s : State) : Out :=
  let r := rotResult op s.regs.a s.regs.flagC
  .next ((s.setReg8 .a r.value).setFlags false false false r.c)

/-- A CB-prefixed rotate, shift or SWAP (R604 to R611): Z from the result. -/
def rotOperand (op : RotOp) (o : Operand8) (s : State) : Out :=
  readOperand8 o s fun v =>
    let r := rotResult op v s.regs.flagC
    writeOperand8 o r.value s fun s1 => .next (s1.setFlags (decide (r.value = 0)) false false r.c)

/-- `RLCA`, 07 (R600). -/
def execRlca (s : State) : Out := rotA .rlc s

/-- `RRCA`, 0F (R601). -/
def execRrca (s : State) : Out := rotA .rrc s

/-- `RLA`, 17 (R602). -/
def execRla (s : State) : Out := rotA .rl s

/-- `RRA`, 1F (R603). -/
def execRra (s : State) : Out := rotA .rr s

/-- `RLC B`, CB 00 (R604). -/
def execRlc_B (s : State) : Out := rotOperand .rlc (.reg .b) s

/-- `RLC C`, CB 01 (R604). -/
def execRlc_C (s : State) : Out := rotOperand .rlc (.reg .c) s

/-- `RLC D`, CB 02 (R604). -/
def execRlc_D (s : State) : Out := rotOperand .rlc (.reg .d) s

/-- `RLC E`, CB 03 (R604). -/
def execRlc_E (s : State) : Out := rotOperand .rlc (.reg .e) s

/-- `RLC H`, CB 04 (R604). -/
def execRlc_H (s : State) : Out := rotOperand .rlc (.reg .h) s

/-- `RLC L`, CB 05 (R604). -/
def execRlc_L (s : State) : Out := rotOperand .rlc (.reg .l) s

/-- `RLC (HL)`, CB 06 (R604). -/
def execRlc_atHL (s : State) : Out := rotOperand .rlc .atHL s

/-- `RLC A`, CB 07 (R604). -/
def execRlc_A (s : State) : Out := rotOperand .rlc (.reg .a) s

/-- `RRC B`, CB 08 (R605). -/
def execRrc_B (s : State) : Out := rotOperand .rrc (.reg .b) s

/-- `RRC C`, CB 09 (R605). -/
def execRrc_C (s : State) : Out := rotOperand .rrc (.reg .c) s

/-- `RRC D`, CB 0A (R605). -/
def execRrc_D (s : State) : Out := rotOperand .rrc (.reg .d) s

/-- `RRC E`, CB 0B (R605). -/
def execRrc_E (s : State) : Out := rotOperand .rrc (.reg .e) s

/-- `RRC H`, CB 0C (R605). -/
def execRrc_H (s : State) : Out := rotOperand .rrc (.reg .h) s

/-- `RRC L`, CB 0D (R605). -/
def execRrc_L (s : State) : Out := rotOperand .rrc (.reg .l) s

/-- `RRC (HL)`, CB 0E (R605). -/
def execRrc_atHL (s : State) : Out := rotOperand .rrc .atHL s

/-- `RRC A`, CB 0F (R605). -/
def execRrc_A (s : State) : Out := rotOperand .rrc (.reg .a) s

/-- `RL B`, CB 10 (R606). -/
def execRl_B (s : State) : Out := rotOperand .rl (.reg .b) s

/-- `RL C`, CB 11 (R606). -/
def execRl_C (s : State) : Out := rotOperand .rl (.reg .c) s

/-- `RL D`, CB 12 (R606). -/
def execRl_D (s : State) : Out := rotOperand .rl (.reg .d) s

/-- `RL E`, CB 13 (R606). -/
def execRl_E (s : State) : Out := rotOperand .rl (.reg .e) s

/-- `RL H`, CB 14 (R606). -/
def execRl_H (s : State) : Out := rotOperand .rl (.reg .h) s

/-- `RL L`, CB 15 (R606). -/
def execRl_L (s : State) : Out := rotOperand .rl (.reg .l) s

/-- `RL (HL)`, CB 16 (R606). -/
def execRl_atHL (s : State) : Out := rotOperand .rl .atHL s

/-- `RL A`, CB 17 (R606). -/
def execRl_A (s : State) : Out := rotOperand .rl (.reg .a) s

/-- `RR B`, CB 18 (R607). -/
def execRr_B (s : State) : Out := rotOperand .rr (.reg .b) s

/-- `RR C`, CB 19 (R607). -/
def execRr_C (s : State) : Out := rotOperand .rr (.reg .c) s

/-- `RR D`, CB 1A (R607). -/
def execRr_D (s : State) : Out := rotOperand .rr (.reg .d) s

/-- `RR E`, CB 1B (R607). -/
def execRr_E (s : State) : Out := rotOperand .rr (.reg .e) s

/-- `RR H`, CB 1C (R607). -/
def execRr_H (s : State) : Out := rotOperand .rr (.reg .h) s

/-- `RR L`, CB 1D (R607). -/
def execRr_L (s : State) : Out := rotOperand .rr (.reg .l) s

/-- `RR (HL)`, CB 1E (R607). -/
def execRr_atHL (s : State) : Out := rotOperand .rr .atHL s

/-- `RR A`, CB 1F (R607). -/
def execRr_A (s : State) : Out := rotOperand .rr (.reg .a) s

/-- `SLA B`, CB 20 (R608). -/
def execSla_B (s : State) : Out := rotOperand .sla (.reg .b) s

/-- `SLA C`, CB 21 (R608). -/
def execSla_C (s : State) : Out := rotOperand .sla (.reg .c) s

/-- `SLA D`, CB 22 (R608). -/
def execSla_D (s : State) : Out := rotOperand .sla (.reg .d) s

/-- `SLA E`, CB 23 (R608). -/
def execSla_E (s : State) : Out := rotOperand .sla (.reg .e) s

/-- `SLA H`, CB 24 (R608). -/
def execSla_H (s : State) : Out := rotOperand .sla (.reg .h) s

/-- `SLA L`, CB 25 (R608). -/
def execSla_L (s : State) : Out := rotOperand .sla (.reg .l) s

/-- `SLA (HL)`, CB 26 (R608). -/
def execSla_atHL (s : State) : Out := rotOperand .sla .atHL s

/-- `SLA A`, CB 27 (R608). -/
def execSla_A (s : State) : Out := rotOperand .sla (.reg .a) s

/-- `SRA B`, CB 28 (R609). -/
def execSra_B (s : State) : Out := rotOperand .sra (.reg .b) s

/-- `SRA C`, CB 29 (R609). -/
def execSra_C (s : State) : Out := rotOperand .sra (.reg .c) s

/-- `SRA D`, CB 2A (R609). -/
def execSra_D (s : State) : Out := rotOperand .sra (.reg .d) s

/-- `SRA E`, CB 2B (R609). -/
def execSra_E (s : State) : Out := rotOperand .sra (.reg .e) s

/-- `SRA H`, CB 2C (R609). -/
def execSra_H (s : State) : Out := rotOperand .sra (.reg .h) s

/-- `SRA L`, CB 2D (R609). -/
def execSra_L (s : State) : Out := rotOperand .sra (.reg .l) s

/-- `SRA (HL)`, CB 2E (R609). -/
def execSra_atHL (s : State) : Out := rotOperand .sra .atHL s

/-- `SRA A`, CB 2F (R609). -/
def execSra_A (s : State) : Out := rotOperand .sra (.reg .a) s

/-- `SWAP B`, CB 30 (R610). -/
def execSwap_B (s : State) : Out := rotOperand .swap (.reg .b) s

/-- `SWAP C`, CB 31 (R610). -/
def execSwap_C (s : State) : Out := rotOperand .swap (.reg .c) s

/-- `SWAP D`, CB 32 (R610). -/
def execSwap_D (s : State) : Out := rotOperand .swap (.reg .d) s

/-- `SWAP E`, CB 33 (R610). -/
def execSwap_E (s : State) : Out := rotOperand .swap (.reg .e) s

/-- `SWAP H`, CB 34 (R610). -/
def execSwap_H (s : State) : Out := rotOperand .swap (.reg .h) s

/-- `SWAP L`, CB 35 (R610). -/
def execSwap_L (s : State) : Out := rotOperand .swap (.reg .l) s

/-- `SWAP (HL)`, CB 36 (R610). -/
def execSwap_atHL (s : State) : Out := rotOperand .swap .atHL s

/-- `SWAP A`, CB 37 (R610). -/
def execSwap_A (s : State) : Out := rotOperand .swap (.reg .a) s

/-- `SRL B`, CB 38 (R611). -/
def execSrl_B (s : State) : Out := rotOperand .srl (.reg .b) s

/-- `SRL C`, CB 39 (R611). -/
def execSrl_C (s : State) : Out := rotOperand .srl (.reg .c) s

/-- `SRL D`, CB 3A (R611). -/
def execSrl_D (s : State) : Out := rotOperand .srl (.reg .d) s

/-- `SRL E`, CB 3B (R611). -/
def execSrl_E (s : State) : Out := rotOperand .srl (.reg .e) s

/-- `SRL H`, CB 3C (R611). -/
def execSrl_H (s : State) : Out := rotOperand .srl (.reg .h) s

/-- `SRL L`, CB 3D (R611). -/
def execSrl_L (s : State) : Out := rotOperand .srl (.reg .l) s

/-- `SRL (HL)`, CB 3E (R611). -/
def execSrl_atHL (s : State) : Out := rotOperand .srl .atHL s

/-- `SRL A`, CB 3F (R611). -/
def execSrl_A (s : State) : Out := rotOperand .srl (.reg .a) s

end Sys2Proof.Machine
end

