-- ==== Sys2Proof/Machine/Dispatch.lean ====
section
/-! DEFINITION. The one dispatch from instructions to meanings: one arm per constructor of Instr, in its order. -/

namespace Sys2Proof.Machine

def exec (i : Instr) (s : State) : Host.Outcome State Fault Refusal :=
  match i with
  | .ld_BC_d16 v => Sys2Proof.Machine.execLd_BC_d16 v s
  | .ld_B_d8 v => Sys2Proof.Machine.execLd_B_d8 v s
  | .ld_atA16_SP v => Sys2Proof.Machine.execLd_atA16_SP v s
  | .ld_C_d8 v => Sys2Proof.Machine.execLd_C_d8 v s
  | .stop v => Sys2Proof.Machine.execStop v s
  | .ld_DE_d16 v => Sys2Proof.Machine.execLd_DE_d16 v s
  | .ld_D_d8 v => Sys2Proof.Machine.execLd_D_d8 v s
  | .jr_r8 v => Sys2Proof.Machine.execJr_r8 v s
  | .ld_E_d8 v => Sys2Proof.Machine.execLd_E_d8 v s
  | .jr_NZ_r8 v => Sys2Proof.Machine.execJr_NZ_r8 v s
  | .ld_HL_d16 v => Sys2Proof.Machine.execLd_HL_d16 v s
  | .ld_H_d8 v => Sys2Proof.Machine.execLd_H_d8 v s
  | .jr_Z_r8 v => Sys2Proof.Machine.execJr_Z_r8 v s
  | .ld_L_d8 v => Sys2Proof.Machine.execLd_L_d8 v s
  | .jr_NC_r8 v => Sys2Proof.Machine.execJr_NC_r8 v s
  | .ld_SP_d16 v => Sys2Proof.Machine.execLd_SP_d16 v s
  | .ld_atHL_d8 v => Sys2Proof.Machine.execLd_atHL_d8 v s
  | .jr_C_r8 v => Sys2Proof.Machine.execJr_C_r8 v s
  | .ld_A_d8 v => Sys2Proof.Machine.execLd_A_d8 v s
  | .jp_NZ_a16 v => Sys2Proof.Machine.execJp_NZ_a16 v s
  | .jp_a16 v => Sys2Proof.Machine.execJp_a16 v s
  | .call_NZ_a16 v => Sys2Proof.Machine.execCall_NZ_a16 v s
  | .add_A_d8 v => Sys2Proof.Machine.execAdd_A_d8 v s
  | .jp_Z_a16 v => Sys2Proof.Machine.execJp_Z_a16 v s
  | .call_Z_a16 v => Sys2Proof.Machine.execCall_Z_a16 v s
  | .call_a16 v => Sys2Proof.Machine.execCall_a16 v s
  | .adc_A_d8 v => Sys2Proof.Machine.execAdc_A_d8 v s
  | .jp_NC_a16 v => Sys2Proof.Machine.execJp_NC_a16 v s
  | .call_NC_a16 v => Sys2Proof.Machine.execCall_NC_a16 v s
  | .sub_d8 v => Sys2Proof.Machine.execSub_d8 v s
  | .jp_C_a16 v => Sys2Proof.Machine.execJp_C_a16 v s
  | .call_C_a16 v => Sys2Proof.Machine.execCall_C_a16 v s
  | .sbc_A_d8 v => Sys2Proof.Machine.execSbc_A_d8 v s
  | .ldh_atA8_A v => Sys2Proof.Machine.execLdh_atA8_A v s
  | .and_d8 v => Sys2Proof.Machine.execAnd_d8 v s
  | .add_SP_r8 v => Sys2Proof.Machine.execAdd_SP_r8 v s
  | .ld_atA16_A v => Sys2Proof.Machine.execLd_atA16_A v s
  | .xor_d8 v => Sys2Proof.Machine.execXor_d8 v s
  | .ldh_A_atA8 v => Sys2Proof.Machine.execLdh_A_atA8 v s
  | .or_d8 v => Sys2Proof.Machine.execOr_d8 v s
  | .ld_HL_SPr8 v => Sys2Proof.Machine.execLd_HL_SPr8 v s
  | .ld_A_atA16 v => Sys2Proof.Machine.execLd_A_atA16 v s
  | .cp_d8 v => Sys2Proof.Machine.execCp_d8 v s
  | .nop => Sys2Proof.Machine.execNop s
  | .ld_atBC_A => Sys2Proof.Machine.execLd_atBC_A s
  | .inc_BC => Sys2Proof.Machine.execInc_BC s
  | .inc_B => Sys2Proof.Machine.execInc_B s
  | .dec_B => Sys2Proof.Machine.execDec_B s
  | .rlca => Sys2Proof.Machine.execRlca s
  | .add_HL_BC => Sys2Proof.Machine.execAdd_HL_BC s
  | .ld_A_atBC => Sys2Proof.Machine.execLd_A_atBC s
  | .dec_BC => Sys2Proof.Machine.execDec_BC s
  | .inc_C => Sys2Proof.Machine.execInc_C s
  | .dec_C => Sys2Proof.Machine.execDec_C s
  | .rrca => Sys2Proof.Machine.execRrca s
  | .ld_atDE_A => Sys2Proof.Machine.execLd_atDE_A s
  | .inc_DE => Sys2Proof.Machine.execInc_DE s
  | .inc_D => Sys2Proof.Machine.execInc_D s
  | .dec_D => Sys2Proof.Machine.execDec_D s
  | .rla => Sys2Proof.Machine.execRla s
  | .add_HL_DE => Sys2Proof.Machine.execAdd_HL_DE s
  | .ld_A_atDE => Sys2Proof.Machine.execLd_A_atDE s
  | .dec_DE => Sys2Proof.Machine.execDec_DE s
  | .inc_E => Sys2Proof.Machine.execInc_E s
  | .dec_E => Sys2Proof.Machine.execDec_E s
  | .rra => Sys2Proof.Machine.execRra s
  | .ld_atHLI_A => Sys2Proof.Machine.execLd_atHLI_A s
  | .inc_HL => Sys2Proof.Machine.execInc_HL s
  | .inc_H => Sys2Proof.Machine.execInc_H s
  | .dec_H => Sys2Proof.Machine.execDec_H s
  | .daa => Sys2Proof.Machine.execDaa s
  | .add_HL_HL => Sys2Proof.Machine.execAdd_HL_HL s
  | .ld_A_atHLI => Sys2Proof.Machine.execLd_A_atHLI s
  | .dec_HL => Sys2Proof.Machine.execDec_HL s
  | .inc_L => Sys2Proof.Machine.execInc_L s
  | .dec_L => Sys2Proof.Machine.execDec_L s
  | .cpl => Sys2Proof.Machine.execCpl s
  | .ld_atHLD_A => Sys2Proof.Machine.execLd_atHLD_A s
  | .inc_SP => Sys2Proof.Machine.execInc_SP s
  | .inc_atHL => Sys2Proof.Machine.execInc_atHL s
  | .dec_atHL => Sys2Proof.Machine.execDec_atHL s
  | .scf => Sys2Proof.Machine.execScf s
  | .add_HL_SP => Sys2Proof.Machine.execAdd_HL_SP s
  | .ld_A_atHLD => Sys2Proof.Machine.execLd_A_atHLD s
  | .dec_SP => Sys2Proof.Machine.execDec_SP s
  | .inc_A => Sys2Proof.Machine.execInc_A s
  | .dec_A => Sys2Proof.Machine.execDec_A s
  | .ccf => Sys2Proof.Machine.execCcf s
  | .ld_B_B => Sys2Proof.Machine.execLd_B_B s
  | .ld_B_C => Sys2Proof.Machine.execLd_B_C s
  | .ld_B_D => Sys2Proof.Machine.execLd_B_D s
  | .ld_B_E => Sys2Proof.Machine.execLd_B_E s
  | .ld_B_H => Sys2Proof.Machine.execLd_B_H s
  | .ld_B_L => Sys2Proof.Machine.execLd_B_L s
  | .ld_B_atHL => Sys2Proof.Machine.execLd_B_atHL s
  | .ld_B_A => Sys2Proof.Machine.execLd_B_A s
  | .ld_C_B => Sys2Proof.Machine.execLd_C_B s
  | .ld_C_C => Sys2Proof.Machine.execLd_C_C s
  | .ld_C_D => Sys2Proof.Machine.execLd_C_D s
  | .ld_C_E => Sys2Proof.Machine.execLd_C_E s
  | .ld_C_H => Sys2Proof.Machine.execLd_C_H s
  | .ld_C_L => Sys2Proof.Machine.execLd_C_L s
  | .ld_C_atHL => Sys2Proof.Machine.execLd_C_atHL s
  | .ld_C_A => Sys2Proof.Machine.execLd_C_A s
  | .ld_D_B => Sys2Proof.Machine.execLd_D_B s
  | .ld_D_C => Sys2Proof.Machine.execLd_D_C s
  | .ld_D_D => Sys2Proof.Machine.execLd_D_D s
  | .ld_D_E => Sys2Proof.Machine.execLd_D_E s
  | .ld_D_H => Sys2Proof.Machine.execLd_D_H s
  | .ld_D_L => Sys2Proof.Machine.execLd_D_L s
  | .ld_D_atHL => Sys2Proof.Machine.execLd_D_atHL s
  | .ld_D_A => Sys2Proof.Machine.execLd_D_A s
  | .ld_E_B => Sys2Proof.Machine.execLd_E_B s
  | .ld_E_C => Sys2Proof.Machine.execLd_E_C s
  | .ld_E_D => Sys2Proof.Machine.execLd_E_D s
  | .ld_E_E => Sys2Proof.Machine.execLd_E_E s
  | .ld_E_H => Sys2Proof.Machine.execLd_E_H s
  | .ld_E_L => Sys2Proof.Machine.execLd_E_L s
  | .ld_E_atHL => Sys2Proof.Machine.execLd_E_atHL s
  | .ld_E_A => Sys2Proof.Machine.execLd_E_A s
  | .ld_H_B => Sys2Proof.Machine.execLd_H_B s
  | .ld_H_C => Sys2Proof.Machine.execLd_H_C s
  | .ld_H_D => Sys2Proof.Machine.execLd_H_D s
  | .ld_H_E => Sys2Proof.Machine.execLd_H_E s
  | .ld_H_H => Sys2Proof.Machine.execLd_H_H s
  | .ld_H_L => Sys2Proof.Machine.execLd_H_L s
  | .ld_H_atHL => Sys2Proof.Machine.execLd_H_atHL s
  | .ld_H_A => Sys2Proof.Machine.execLd_H_A s
  | .ld_L_B => Sys2Proof.Machine.execLd_L_B s
  | .ld_L_C => Sys2Proof.Machine.execLd_L_C s
  | .ld_L_D => Sys2Proof.Machine.execLd_L_D s
  | .ld_L_E => Sys2Proof.Machine.execLd_L_E s
  | .ld_L_H => Sys2Proof.Machine.execLd_L_H s
  | .ld_L_L => Sys2Proof.Machine.execLd_L_L s
  | .ld_L_atHL => Sys2Proof.Machine.execLd_L_atHL s
  | .ld_L_A => Sys2Proof.Machine.execLd_L_A s
  | .ld_atHL_B => Sys2Proof.Machine.execLd_atHL_B s
  | .ld_atHL_C => Sys2Proof.Machine.execLd_atHL_C s
  | .ld_atHL_D => Sys2Proof.Machine.execLd_atHL_D s
  | .ld_atHL_E => Sys2Proof.Machine.execLd_atHL_E s
  | .ld_atHL_H => Sys2Proof.Machine.execLd_atHL_H s
  | .ld_atHL_L => Sys2Proof.Machine.execLd_atHL_L s
  | .halt => Sys2Proof.Machine.execHalt s
  | .ld_atHL_A => Sys2Proof.Machine.execLd_atHL_A s
  | .ld_A_B => Sys2Proof.Machine.execLd_A_B s
  | .ld_A_C => Sys2Proof.Machine.execLd_A_C s
  | .ld_A_D => Sys2Proof.Machine.execLd_A_D s
  | .ld_A_E => Sys2Proof.Machine.execLd_A_E s
  | .ld_A_H => Sys2Proof.Machine.execLd_A_H s
  | .ld_A_L => Sys2Proof.Machine.execLd_A_L s
  | .ld_A_atHL => Sys2Proof.Machine.execLd_A_atHL s
  | .ld_A_A => Sys2Proof.Machine.execLd_A_A s
  | .add_A_B => Sys2Proof.Machine.execAdd_A_B s
  | .add_A_C => Sys2Proof.Machine.execAdd_A_C s
  | .add_A_D => Sys2Proof.Machine.execAdd_A_D s
  | .add_A_E => Sys2Proof.Machine.execAdd_A_E s
  | .add_A_H => Sys2Proof.Machine.execAdd_A_H s
  | .add_A_L => Sys2Proof.Machine.execAdd_A_L s
  | .add_A_atHL => Sys2Proof.Machine.execAdd_A_atHL s
  | .add_A_A => Sys2Proof.Machine.execAdd_A_A s
  | .adc_A_B => Sys2Proof.Machine.execAdc_A_B s
  | .adc_A_C => Sys2Proof.Machine.execAdc_A_C s
  | .adc_A_D => Sys2Proof.Machine.execAdc_A_D s
  | .adc_A_E => Sys2Proof.Machine.execAdc_A_E s
  | .adc_A_H => Sys2Proof.Machine.execAdc_A_H s
  | .adc_A_L => Sys2Proof.Machine.execAdc_A_L s
  | .adc_A_atHL => Sys2Proof.Machine.execAdc_A_atHL s
  | .adc_A_A => Sys2Proof.Machine.execAdc_A_A s
  | .sub_B => Sys2Proof.Machine.execSub_B s
  | .sub_C => Sys2Proof.Machine.execSub_C s
  | .sub_D => Sys2Proof.Machine.execSub_D s
  | .sub_E => Sys2Proof.Machine.execSub_E s
  | .sub_H => Sys2Proof.Machine.execSub_H s
  | .sub_L => Sys2Proof.Machine.execSub_L s
  | .sub_atHL => Sys2Proof.Machine.execSub_atHL s
  | .sub_A => Sys2Proof.Machine.execSub_A s
  | .sbc_A_B => Sys2Proof.Machine.execSbc_A_B s
  | .sbc_A_C => Sys2Proof.Machine.execSbc_A_C s
  | .sbc_A_D => Sys2Proof.Machine.execSbc_A_D s
  | .sbc_A_E => Sys2Proof.Machine.execSbc_A_E s
  | .sbc_A_H => Sys2Proof.Machine.execSbc_A_H s
  | .sbc_A_L => Sys2Proof.Machine.execSbc_A_L s
  | .sbc_A_atHL => Sys2Proof.Machine.execSbc_A_atHL s
  | .sbc_A_A => Sys2Proof.Machine.execSbc_A_A s
  | .and_B => Sys2Proof.Machine.execAnd_B s
  | .and_C => Sys2Proof.Machine.execAnd_C s
  | .and_D => Sys2Proof.Machine.execAnd_D s
  | .and_E => Sys2Proof.Machine.execAnd_E s
  | .and_H => Sys2Proof.Machine.execAnd_H s
  | .and_L => Sys2Proof.Machine.execAnd_L s
  | .and_atHL => Sys2Proof.Machine.execAnd_atHL s
  | .and_A => Sys2Proof.Machine.execAnd_A s
  | .xor_B => Sys2Proof.Machine.execXor_B s
  | .xor_C => Sys2Proof.Machine.execXor_C s
  | .xor_D => Sys2Proof.Machine.execXor_D s
  | .xor_E => Sys2Proof.Machine.execXor_E s
  | .xor_H => Sys2Proof.Machine.execXor_H s
  | .xor_L => Sys2Proof.Machine.execXor_L s
  | .xor_atHL => Sys2Proof.Machine.execXor_atHL s
  | .xor_A => Sys2Proof.Machine.execXor_A s
  | .or_B => Sys2Proof.Machine.execOr_B s
  | .or_C => Sys2Proof.Machine.execOr_C s
  | .or_D => Sys2Proof.Machine.execOr_D s
  | .or_E => Sys2Proof.Machine.execOr_E s
  | .or_H => Sys2Proof.Machine.execOr_H s
  | .or_L => Sys2Proof.Machine.execOr_L s
  | .or_atHL => Sys2Proof.Machine.execOr_atHL s
  | .or_A => Sys2Proof.Machine.execOr_A s
  | .cp_B => Sys2Proof.Machine.execCp_B s
  | .cp_C => Sys2Proof.Machine.execCp_C s
  | .cp_D => Sys2Proof.Machine.execCp_D s
  | .cp_E => Sys2Proof.Machine.execCp_E s
  | .cp_H => Sys2Proof.Machine.execCp_H s
  | .cp_L => Sys2Proof.Machine.execCp_L s
  | .cp_atHL => Sys2Proof.Machine.execCp_atHL s
  | .cp_A => Sys2Proof.Machine.execCp_A s
  | .ret_NZ => Sys2Proof.Machine.execRet_NZ s
  | .pop_BC => Sys2Proof.Machine.execPop_BC s
  | .push_BC => Sys2Proof.Machine.execPush_BC s
  | .rst_00h => Sys2Proof.Machine.execRst_00h s
  | .ret_Z => Sys2Proof.Machine.execRet_Z s
  | .ret => Sys2Proof.Machine.execRet s
  | .rst_08h => Sys2Proof.Machine.execRst_08h s
  | .ret_NC => Sys2Proof.Machine.execRet_NC s
  | .pop_DE => Sys2Proof.Machine.execPop_DE s
  | .undefined_D3 => Sys2Proof.Machine.execUndefined_D3 s
  | .push_DE => Sys2Proof.Machine.execPush_DE s
  | .rst_10h => Sys2Proof.Machine.execRst_10h s
  | .ret_C => Sys2Proof.Machine.execRet_C s
  | .reti => Sys2Proof.Machine.execReti s
  | .undefined_DB => Sys2Proof.Machine.execUndefined_DB s
  | .undefined_DD => Sys2Proof.Machine.execUndefined_DD s
  | .rst_18h => Sys2Proof.Machine.execRst_18h s
  | .pop_HL => Sys2Proof.Machine.execPop_HL s
  | .ld_atC_A => Sys2Proof.Machine.execLd_atC_A s
  | .undefined_E3 => Sys2Proof.Machine.execUndefined_E3 s
  | .undefined_E4 => Sys2Proof.Machine.execUndefined_E4 s
  | .push_HL => Sys2Proof.Machine.execPush_HL s
  | .rst_20h => Sys2Proof.Machine.execRst_20h s
  | .jp_HL => Sys2Proof.Machine.execJp_HL s
  | .undefined_EB => Sys2Proof.Machine.execUndefined_EB s
  | .undefined_EC => Sys2Proof.Machine.execUndefined_EC s
  | .undefined_ED => Sys2Proof.Machine.execUndefined_ED s
  | .rst_28h => Sys2Proof.Machine.execRst_28h s
  | .pop_AF => Sys2Proof.Machine.execPop_AF s
  | .ld_A_atC => Sys2Proof.Machine.execLd_A_atC s
  | .di => Sys2Proof.Machine.execDi s
  | .undefined_F4 => Sys2Proof.Machine.execUndefined_F4 s
  | .push_AF => Sys2Proof.Machine.execPush_AF s
  | .rst_30h => Sys2Proof.Machine.execRst_30h s
  | .ld_SP_HL => Sys2Proof.Machine.execLd_SP_HL s
  | .ei => Sys2Proof.Machine.execEi s
  | .undefined_FC => Sys2Proof.Machine.execUndefined_FC s
  | .undefined_FD => Sys2Proof.Machine.execUndefined_FD s
  | .rst_38h => Sys2Proof.Machine.execRst_38h s
  | .rlc_B => Sys2Proof.Machine.execRlc_B s
  | .rlc_C => Sys2Proof.Machine.execRlc_C s
  | .rlc_D => Sys2Proof.Machine.execRlc_D s
  | .rlc_E => Sys2Proof.Machine.execRlc_E s
  | .rlc_H => Sys2Proof.Machine.execRlc_H s
  | .rlc_L => Sys2Proof.Machine.execRlc_L s
  | .rlc_atHL => Sys2Proof.Machine.execRlc_atHL s
  | .rlc_A => Sys2Proof.Machine.execRlc_A s
  | .rrc_B => Sys2Proof.Machine.execRrc_B s
  | .rrc_C => Sys2Proof.Machine.execRrc_C s
  | .rrc_D => Sys2Proof.Machine.execRrc_D s
  | .rrc_E => Sys2Proof.Machine.execRrc_E s
  | .rrc_H => Sys2Proof.Machine.execRrc_H s
  | .rrc_L => Sys2Proof.Machine.execRrc_L s
  | .rrc_atHL => Sys2Proof.Machine.execRrc_atHL s
  | .rrc_A => Sys2Proof.Machine.execRrc_A s
  | .rl_B => Sys2Proof.Machine.execRl_B s
  | .rl_C => Sys2Proof.Machine.execRl_C s
  | .rl_D => Sys2Proof.Machine.execRl_D s
  | .rl_E => Sys2Proof.Machine.execRl_E s
  | .rl_H => Sys2Proof.Machine.execRl_H s
  | .rl_L => Sys2Proof.Machine.execRl_L s
  | .rl_atHL => Sys2Proof.Machine.execRl_atHL s
  | .rl_A => Sys2Proof.Machine.execRl_A s
  | .rr_B => Sys2Proof.Machine.execRr_B s
  | .rr_C => Sys2Proof.Machine.execRr_C s
  | .rr_D => Sys2Proof.Machine.execRr_D s
  | .rr_E => Sys2Proof.Machine.execRr_E s
  | .rr_H => Sys2Proof.Machine.execRr_H s
  | .rr_L => Sys2Proof.Machine.execRr_L s
  | .rr_atHL => Sys2Proof.Machine.execRr_atHL s
  | .rr_A => Sys2Proof.Machine.execRr_A s
  | .sla_B => Sys2Proof.Machine.execSla_B s
  | .sla_C => Sys2Proof.Machine.execSla_C s
  | .sla_D => Sys2Proof.Machine.execSla_D s
  | .sla_E => Sys2Proof.Machine.execSla_E s
  | .sla_H => Sys2Proof.Machine.execSla_H s
  | .sla_L => Sys2Proof.Machine.execSla_L s
  | .sla_atHL => Sys2Proof.Machine.execSla_atHL s
  | .sla_A => Sys2Proof.Machine.execSla_A s
  | .sra_B => Sys2Proof.Machine.execSra_B s
  | .sra_C => Sys2Proof.Machine.execSra_C s
  | .sra_D => Sys2Proof.Machine.execSra_D s
  | .sra_E => Sys2Proof.Machine.execSra_E s
  | .sra_H => Sys2Proof.Machine.execSra_H s
  | .sra_L => Sys2Proof.Machine.execSra_L s
  | .sra_atHL => Sys2Proof.Machine.execSra_atHL s
  | .sra_A => Sys2Proof.Machine.execSra_A s
  | .swap_B => Sys2Proof.Machine.execSwap_B s
  | .swap_C => Sys2Proof.Machine.execSwap_C s
  | .swap_D => Sys2Proof.Machine.execSwap_D s
  | .swap_E => Sys2Proof.Machine.execSwap_E s
  | .swap_H => Sys2Proof.Machine.execSwap_H s
  | .swap_L => Sys2Proof.Machine.execSwap_L s
  | .swap_atHL => Sys2Proof.Machine.execSwap_atHL s
  | .swap_A => Sys2Proof.Machine.execSwap_A s
  | .srl_B => Sys2Proof.Machine.execSrl_B s
  | .srl_C => Sys2Proof.Machine.execSrl_C s
  | .srl_D => Sys2Proof.Machine.execSrl_D s
  | .srl_E => Sys2Proof.Machine.execSrl_E s
  | .srl_H => Sys2Proof.Machine.execSrl_H s
  | .srl_L => Sys2Proof.Machine.execSrl_L s
  | .srl_atHL => Sys2Proof.Machine.execSrl_atHL s
  | .srl_A => Sys2Proof.Machine.execSrl_A s
  | .bit_0_B => Sys2Proof.Machine.execBit_0_B s
  | .bit_0_C => Sys2Proof.Machine.execBit_0_C s
  | .bit_0_D => Sys2Proof.Machine.execBit_0_D s
  | .bit_0_E => Sys2Proof.Machine.execBit_0_E s
  | .bit_0_H => Sys2Proof.Machine.execBit_0_H s
  | .bit_0_L => Sys2Proof.Machine.execBit_0_L s
  | .bit_0_atHL => Sys2Proof.Machine.execBit_0_atHL s
  | .bit_0_A => Sys2Proof.Machine.execBit_0_A s
  | .bit_1_B => Sys2Proof.Machine.execBit_1_B s
  | .bit_1_C => Sys2Proof.Machine.execBit_1_C s
  | .bit_1_D => Sys2Proof.Machine.execBit_1_D s
  | .bit_1_E => Sys2Proof.Machine.execBit_1_E s
  | .bit_1_H => Sys2Proof.Machine.execBit_1_H s
  | .bit_1_L => Sys2Proof.Machine.execBit_1_L s
  | .bit_1_atHL => Sys2Proof.Machine.execBit_1_atHL s
  | .bit_1_A => Sys2Proof.Machine.execBit_1_A s
  | .bit_2_B => Sys2Proof.Machine.execBit_2_B s
  | .bit_2_C => Sys2Proof.Machine.execBit_2_C s
  | .bit_2_D => Sys2Proof.Machine.execBit_2_D s
  | .bit_2_E => Sys2Proof.Machine.execBit_2_E s
  | .bit_2_H => Sys2Proof.Machine.execBit_2_H s
  | .bit_2_L => Sys2Proof.Machine.execBit_2_L s
  | .bit_2_atHL => Sys2Proof.Machine.execBit_2_atHL s
  | .bit_2_A => Sys2Proof.Machine.execBit_2_A s
  | .bit_3_B => Sys2Proof.Machine.execBit_3_B s
  | .bit_3_C => Sys2Proof.Machine.execBit_3_C s
  | .bit_3_D => Sys2Proof.Machine.execBit_3_D s
  | .bit_3_E => Sys2Proof.Machine.execBit_3_E s
  | .bit_3_H => Sys2Proof.Machine.execBit_3_H s
  | .bit_3_L => Sys2Proof.Machine.execBit_3_L s
  | .bit_3_atHL => Sys2Proof.Machine.execBit_3_atHL s
  | .bit_3_A => Sys2Proof.Machine.execBit_3_A s
  | .bit_4_B => Sys2Proof.Machine.execBit_4_B s
  | .bit_4_C => Sys2Proof.Machine.execBit_4_C s
  | .bit_4_D => Sys2Proof.Machine.execBit_4_D s
  | .bit_4_E => Sys2Proof.Machine.execBit_4_E s
  | .bit_4_H => Sys2Proof.Machine.execBit_4_H s
  | .bit_4_L => Sys2Proof.Machine.execBit_4_L s
  | .bit_4_atHL => Sys2Proof.Machine.execBit_4_atHL s
  | .bit_4_A => Sys2Proof.Machine.execBit_4_A s
  | .bit_5_B => Sys2Proof.Machine.execBit_5_B s
  | .bit_5_C => Sys2Proof.Machine.execBit_5_C s
  | .bit_5_D => Sys2Proof.Machine.execBit_5_D s
  | .bit_5_E => Sys2Proof.Machine.execBit_5_E s
  | .bit_5_H => Sys2Proof.Machine.execBit_5_H s
  | .bit_5_L => Sys2Proof.Machine.execBit_5_L s
  | .bit_5_atHL => Sys2Proof.Machine.execBit_5_atHL s
  | .bit_5_A => Sys2Proof.Machine.execBit_5_A s
  | .bit_6_B => Sys2Proof.Machine.execBit_6_B s
  | .bit_6_C => Sys2Proof.Machine.execBit_6_C s
  | .bit_6_D => Sys2Proof.Machine.execBit_6_D s
  | .bit_6_E => Sys2Proof.Machine.execBit_6_E s
  | .bit_6_H => Sys2Proof.Machine.execBit_6_H s
  | .bit_6_L => Sys2Proof.Machine.execBit_6_L s
  | .bit_6_atHL => Sys2Proof.Machine.execBit_6_atHL s
  | .bit_6_A => Sys2Proof.Machine.execBit_6_A s
  | .bit_7_B => Sys2Proof.Machine.execBit_7_B s
  | .bit_7_C => Sys2Proof.Machine.execBit_7_C s
  | .bit_7_D => Sys2Proof.Machine.execBit_7_D s
  | .bit_7_E => Sys2Proof.Machine.execBit_7_E s
  | .bit_7_H => Sys2Proof.Machine.execBit_7_H s
  | .bit_7_L => Sys2Proof.Machine.execBit_7_L s
  | .bit_7_atHL => Sys2Proof.Machine.execBit_7_atHL s
  | .bit_7_A => Sys2Proof.Machine.execBit_7_A s
  | .res_0_B => Sys2Proof.Machine.execRes_0_B s
  | .res_0_C => Sys2Proof.Machine.execRes_0_C s
  | .res_0_D => Sys2Proof.Machine.execRes_0_D s
  | .res_0_E => Sys2Proof.Machine.execRes_0_E s
  | .res_0_H => Sys2Proof.Machine.execRes_0_H s
  | .res_0_L => Sys2Proof.Machine.execRes_0_L s
  | .res_0_atHL => Sys2Proof.Machine.execRes_0_atHL s
  | .res_0_A => Sys2Proof.Machine.execRes_0_A s
  | .res_1_B => Sys2Proof.Machine.execRes_1_B s
  | .res_1_C => Sys2Proof.Machine.execRes_1_C s
  | .res_1_D => Sys2Proof.Machine.execRes_1_D s
  | .res_1_E => Sys2Proof.Machine.execRes_1_E s
  | .res_1_H => Sys2Proof.Machine.execRes_1_H s
  | .res_1_L => Sys2Proof.Machine.execRes_1_L s
  | .res_1_atHL => Sys2Proof.Machine.execRes_1_atHL s
  | .res_1_A => Sys2Proof.Machine.execRes_1_A s
  | .res_2_B => Sys2Proof.Machine.execRes_2_B s
  | .res_2_C => Sys2Proof.Machine.execRes_2_C s
  | .res_2_D => Sys2Proof.Machine.execRes_2_D s
  | .res_2_E => Sys2Proof.Machine.execRes_2_E s
  | .res_2_H => Sys2Proof.Machine.execRes_2_H s
  | .res_2_L => Sys2Proof.Machine.execRes_2_L s
  | .res_2_atHL => Sys2Proof.Machine.execRes_2_atHL s
  | .res_2_A => Sys2Proof.Machine.execRes_2_A s
  | .res_3_B => Sys2Proof.Machine.execRes_3_B s
  | .res_3_C => Sys2Proof.Machine.execRes_3_C s
  | .res_3_D => Sys2Proof.Machine.execRes_3_D s
  | .res_3_E => Sys2Proof.Machine.execRes_3_E s
  | .res_3_H => Sys2Proof.Machine.execRes_3_H s
  | .res_3_L => Sys2Proof.Machine.execRes_3_L s
  | .res_3_atHL => Sys2Proof.Machine.execRes_3_atHL s
  | .res_3_A => Sys2Proof.Machine.execRes_3_A s
  | .res_4_B => Sys2Proof.Machine.execRes_4_B s
  | .res_4_C => Sys2Proof.Machine.execRes_4_C s
  | .res_4_D => Sys2Proof.Machine.execRes_4_D s
  | .res_4_E => Sys2Proof.Machine.execRes_4_E s
  | .res_4_H => Sys2Proof.Machine.execRes_4_H s
  | .res_4_L => Sys2Proof.Machine.execRes_4_L s
  | .res_4_atHL => Sys2Proof.Machine.execRes_4_atHL s
  | .res_4_A => Sys2Proof.Machine.execRes_4_A s
  | .res_5_B => Sys2Proof.Machine.execRes_5_B s
  | .res_5_C => Sys2Proof.Machine.execRes_5_C s
  | .res_5_D => Sys2Proof.Machine.execRes_5_D s
  | .res_5_E => Sys2Proof.Machine.execRes_5_E s
  | .res_5_H => Sys2Proof.Machine.execRes_5_H s
  | .res_5_L => Sys2Proof.Machine.execRes_5_L s
  | .res_5_atHL => Sys2Proof.Machine.execRes_5_atHL s
  | .res_5_A => Sys2Proof.Machine.execRes_5_A s
  | .res_6_B => Sys2Proof.Machine.execRes_6_B s
  | .res_6_C => Sys2Proof.Machine.execRes_6_C s
  | .res_6_D => Sys2Proof.Machine.execRes_6_D s
  | .res_6_E => Sys2Proof.Machine.execRes_6_E s
  | .res_6_H => Sys2Proof.Machine.execRes_6_H s
  | .res_6_L => Sys2Proof.Machine.execRes_6_L s
  | .res_6_atHL => Sys2Proof.Machine.execRes_6_atHL s
  | .res_6_A => Sys2Proof.Machine.execRes_6_A s
  | .res_7_B => Sys2Proof.Machine.execRes_7_B s
  | .res_7_C => Sys2Proof.Machine.execRes_7_C s
  | .res_7_D => Sys2Proof.Machine.execRes_7_D s
  | .res_7_E => Sys2Proof.Machine.execRes_7_E s
  | .res_7_H => Sys2Proof.Machine.execRes_7_H s
  | .res_7_L => Sys2Proof.Machine.execRes_7_L s
  | .res_7_atHL => Sys2Proof.Machine.execRes_7_atHL s
  | .res_7_A => Sys2Proof.Machine.execRes_7_A s
  | .set_0_B => Sys2Proof.Machine.execSet_0_B s
  | .set_0_C => Sys2Proof.Machine.execSet_0_C s
  | .set_0_D => Sys2Proof.Machine.execSet_0_D s
  | .set_0_E => Sys2Proof.Machine.execSet_0_E s
  | .set_0_H => Sys2Proof.Machine.execSet_0_H s
  | .set_0_L => Sys2Proof.Machine.execSet_0_L s
  | .set_0_atHL => Sys2Proof.Machine.execSet_0_atHL s
  | .set_0_A => Sys2Proof.Machine.execSet_0_A s
  | .set_1_B => Sys2Proof.Machine.execSet_1_B s
  | .set_1_C => Sys2Proof.Machine.execSet_1_C s
  | .set_1_D => Sys2Proof.Machine.execSet_1_D s
  | .set_1_E => Sys2Proof.Machine.execSet_1_E s
  | .set_1_H => Sys2Proof.Machine.execSet_1_H s
  | .set_1_L => Sys2Proof.Machine.execSet_1_L s
  | .set_1_atHL => Sys2Proof.Machine.execSet_1_atHL s
  | .set_1_A => Sys2Proof.Machine.execSet_1_A s
  | .set_2_B => Sys2Proof.Machine.execSet_2_B s
  | .set_2_C => Sys2Proof.Machine.execSet_2_C s
  | .set_2_D => Sys2Proof.Machine.execSet_2_D s
  | .set_2_E => Sys2Proof.Machine.execSet_2_E s
  | .set_2_H => Sys2Proof.Machine.execSet_2_H s
  | .set_2_L => Sys2Proof.Machine.execSet_2_L s
  | .set_2_atHL => Sys2Proof.Machine.execSet_2_atHL s
  | .set_2_A => Sys2Proof.Machine.execSet_2_A s
  | .set_3_B => Sys2Proof.Machine.execSet_3_B s
  | .set_3_C => Sys2Proof.Machine.execSet_3_C s
  | .set_3_D => Sys2Proof.Machine.execSet_3_D s
  | .set_3_E => Sys2Proof.Machine.execSet_3_E s
  | .set_3_H => Sys2Proof.Machine.execSet_3_H s
  | .set_3_L => Sys2Proof.Machine.execSet_3_L s
  | .set_3_atHL => Sys2Proof.Machine.execSet_3_atHL s
  | .set_3_A => Sys2Proof.Machine.execSet_3_A s
  | .set_4_B => Sys2Proof.Machine.execSet_4_B s
  | .set_4_C => Sys2Proof.Machine.execSet_4_C s
  | .set_4_D => Sys2Proof.Machine.execSet_4_D s
  | .set_4_E => Sys2Proof.Machine.execSet_4_E s
  | .set_4_H => Sys2Proof.Machine.execSet_4_H s
  | .set_4_L => Sys2Proof.Machine.execSet_4_L s
  | .set_4_atHL => Sys2Proof.Machine.execSet_4_atHL s
  | .set_4_A => Sys2Proof.Machine.execSet_4_A s
  | .set_5_B => Sys2Proof.Machine.execSet_5_B s
  | .set_5_C => Sys2Proof.Machine.execSet_5_C s
  | .set_5_D => Sys2Proof.Machine.execSet_5_D s
  | .set_5_E => Sys2Proof.Machine.execSet_5_E s
  | .set_5_H => Sys2Proof.Machine.execSet_5_H s
  | .set_5_L => Sys2Proof.Machine.execSet_5_L s
  | .set_5_atHL => Sys2Proof.Machine.execSet_5_atHL s
  | .set_5_A => Sys2Proof.Machine.execSet_5_A s
  | .set_6_B => Sys2Proof.Machine.execSet_6_B s
  | .set_6_C => Sys2Proof.Machine.execSet_6_C s
  | .set_6_D => Sys2Proof.Machine.execSet_6_D s
  | .set_6_E => Sys2Proof.Machine.execSet_6_E s
  | .set_6_H => Sys2Proof.Machine.execSet_6_H s
  | .set_6_L => Sys2Proof.Machine.execSet_6_L s
  | .set_6_atHL => Sys2Proof.Machine.execSet_6_atHL s
  | .set_6_A => Sys2Proof.Machine.execSet_6_A s
  | .set_7_B => Sys2Proof.Machine.execSet_7_B s
  | .set_7_C => Sys2Proof.Machine.execSet_7_C s
  | .set_7_D => Sys2Proof.Machine.execSet_7_D s
  | .set_7_E => Sys2Proof.Machine.execSet_7_E s
  | .set_7_H => Sys2Proof.Machine.execSet_7_H s
  | .set_7_L => Sys2Proof.Machine.execSet_7_L s
  | .set_7_atHL => Sys2Proof.Machine.execSet_7_atHL s
  | .set_7_A => Sys2Proof.Machine.execSet_7_A s

end Sys2Proof.Machine
end

