-- ==== Sys2Proof/Machine/Cpu.lean ====
section
/-! DEFINITION. The CPU step (30_encoding.md R309): the interrupt check, the history ring, fetch, decode and dispatch. -/

namespace Sys2Proof.Machine

/-- Fetches one instruction at PC, byte by byte (R308, R309), and runs it. A faulting fetch leaves PC at the byte that
could not be read (R802); after an undefined opcode no further byte is fetched (R312). -/
def fetchExecute (s : State) : Out :=
  fetchByte s fun op s1 =>
    match template op with
    | .plain i => exec i s1
    | .imm8 f => fetchByte s1 fun v s2 => exec (f v) s2
    | .imm16 f => fetchByte s1 fun lo s2 => fetchByte s2 fun hi s3 => exec (f (joinBytes hi lo)) s3
    | .cb => fetchByte s1 fun op2 s2 => exec (cbInstr op2) s2

/-- `cpu_step()` (R309): one interrupt dispatch, or one instruction. -/
def cpuStep (s : State) : Out :=
  if s.interruptTaken then takeInterrupt s else fetchExecute s.historyAppend

end Sys2Proof.Machine
end

