-- ==== Sys2Proof/Machine/Driver.lean ====
section
/-! DEFINITION. The host's driver (70_reset_and_hazards.md R904): its actions, the actions pending in State, and the
reference schedule with its informative M-cycle table (R908). -/

namespace Sys2Proof.Machine

/-! ## The informative M-cycle table (R908) -/

/-- Row 0x of the M-cycle table (R908): (taken, not taken). -/
def cyclesRow0 : List (Nat × Nat) :=
  [(1, 1), (3, 3), (2, 2), (2, 2), (1, 1), (1, 1), (2, 2), (1, 1), (5, 5), (2, 2), (2, 2), (2, 2), (1, 1), (1, 1), (2, 2), (1, 1)]

/-- Row 1x of the M-cycle table (R908): (taken, not taken). -/
def cyclesRow1 : List (Nat × Nat) :=
  [(1, 1), (3, 3), (2, 2), (2, 2), (1, 1), (1, 1), (2, 2), (1, 1), (3, 3), (2, 2), (2, 2), (2, 2), (1, 1), (1, 1), (2, 2), (1, 1)]

/-- Row 2x of the M-cycle table (R908): (taken, not taken). -/
def cyclesRow2 : List (Nat × Nat) :=
  [(3, 2), (3, 3), (2, 2), (2, 2), (1, 1), (1, 1), (2, 2), (1, 1), (3, 2), (2, 2), (2, 2), (2, 2), (1, 1), (1, 1), (2, 2), (1, 1)]

/-- Row 3x of the M-cycle table (R908): (taken, not taken). -/
def cyclesRow3 : List (Nat × Nat) :=
  [(3, 2), (3, 3), (2, 2), (2, 2), (3, 3), (3, 3), (3, 3), (1, 1), (3, 2), (2, 2), (2, 2), (2, 2), (1, 1), (1, 1), (2, 2), (1, 1)]

/-- Row 4x of the M-cycle table (R908): (taken, not taken). -/
def cyclesRow4 : List (Nat × Nat) :=
  [(1, 1), (1, 1), (1, 1), (1, 1), (1, 1), (1, 1), (2, 2), (1, 1), (1, 1), (1, 1), (1, 1), (1, 1), (1, 1), (1, 1), (2, 2), (1, 1)]

/-- Row 5x of the M-cycle table (R908): (taken, not taken). -/
def cyclesRow5 : List (Nat × Nat) :=
  [(1, 1), (1, 1), (1, 1), (1, 1), (1, 1), (1, 1), (2, 2), (1, 1), (1, 1), (1, 1), (1, 1), (1, 1), (1, 1), (1, 1), (2, 2), (1, 1)]

/-- Row 6x of the M-cycle table (R908): (taken, not taken). -/
def cyclesRow6 : List (Nat × Nat) :=
  [(1, 1), (1, 1), (1, 1), (1, 1), (1, 1), (1, 1), (2, 2), (1, 1), (1, 1), (1, 1), (1, 1), (1, 1), (1, 1), (1, 1), (2, 2), (1, 1)]

/-- Row 7x of the M-cycle table (R908): (taken, not taken). -/
def cyclesRow7 : List (Nat × Nat) :=
  [(2, 2), (2, 2), (2, 2), (2, 2), (2, 2), (2, 2), (1, 1), (2, 2), (1, 1), (1, 1), (1, 1), (1, 1), (1, 1), (1, 1), (2, 2), (1, 1)]

/-- Row 8x of the M-cycle table (R908): (taken, not taken). -/
def cyclesRow8 : List (Nat × Nat) :=
  [(1, 1), (1, 1), (1, 1), (1, 1), (1, 1), (1, 1), (2, 2), (1, 1), (1, 1), (1, 1), (1, 1), (1, 1), (1, 1), (1, 1), (2, 2), (1, 1)]

/-- Row 9x of the M-cycle table (R908): (taken, not taken). -/
def cyclesRow9 : List (Nat × Nat) :=
  [(1, 1), (1, 1), (1, 1), (1, 1), (1, 1), (1, 1), (2, 2), (1, 1), (1, 1), (1, 1), (1, 1), (1, 1), (1, 1), (1, 1), (2, 2), (1, 1)]

/-- Row Ax of the M-cycle table (R908): (taken, not taken). -/
def cyclesRowA : List (Nat × Nat) :=
  [(1, 1), (1, 1), (1, 1), (1, 1), (1, 1), (1, 1), (2, 2), (1, 1), (1, 1), (1, 1), (1, 1), (1, 1), (1, 1), (1, 1), (2, 2), (1, 1)]

/-- Row Bx of the M-cycle table (R908): (taken, not taken). -/
def cyclesRowB : List (Nat × Nat) :=
  [(1, 1), (1, 1), (1, 1), (1, 1), (1, 1), (1, 1), (2, 2), (1, 1), (1, 1), (1, 1), (1, 1), (1, 1), (1, 1), (1, 1), (2, 2), (1, 1)]

/-- Row Cx of the M-cycle table (R908): (taken, not taken). -/
def cyclesRowC : List (Nat × Nat) :=
  [(5, 2), (3, 3), (4, 3), (4, 4), (6, 3), (4, 4), (2, 2), (4, 4), (5, 2), (4, 4), (4, 3), (0, 0), (6, 3), (6, 6), (2, 2), (4, 4)]

/-- Row Dx of the M-cycle table (R908): (taken, not taken). -/
def cyclesRowD : List (Nat × Nat) :=
  [(5, 2), (3, 3), (4, 3), (0, 0), (6, 3), (4, 4), (2, 2), (4, 4), (5, 2), (4, 4), (4, 3), (0, 0), (6, 3), (0, 0), (2, 2), (4, 4)]

/-- Row Ex of the M-cycle table (R908): (taken, not taken). -/
def cyclesRowE : List (Nat × Nat) :=
  [(3, 3), (3, 3), (2, 2), (0, 0), (0, 0), (4, 4), (2, 2), (4, 4), (4, 4), (1, 1), (4, 4), (0, 0), (0, 0), (0, 0), (2, 2), (4, 4)]

/-- Row Fx of the M-cycle table (R908): (taken, not taken). -/
def cyclesRowF : List (Nat × Nat) :=
  [(3, 3), (3, 3), (2, 2), (1, 1), (0, 0), (4, 4), (2, 2), (4, 4), (3, 3), (2, 2), (4, 4), (1, 1), (0, 0), (0, 0), (2, 2), (4, 4)]

/-- The row of the M-cycle table for a high nibble (R908). -/
def cyclesRow (hi : Nat) : List (Nat × Nat) :=
  match hi with
  | 0 => cyclesRow0
  | 1 => cyclesRow1
  | 2 => cyclesRow2
  | 3 => cyclesRow3
  | 4 => cyclesRow4
  | 5 => cyclesRow5
  | 6 => cyclesRow6
  | 7 => cyclesRow7
  | 8 => cyclesRow8
  | 9 => cyclesRow9
  | 10 => cyclesRowA
  | 11 => cyclesRowB
  | 12 => cyclesRowC
  | 13 => cyclesRowD
  | 14 => cyclesRowE
  | _ => cyclesRowF

/-- M-cycles of a primary opcode: (taken, not taken) (R908). -/
def primaryCycles (op : Byte) : Nat × Nat := (cyclesRow (op.toNat / 16)).getD (op.toNat % 16) (0, 0)

/-- M-cycles of a CB-prefixed instruction, both bytes (R908): 2 on a register, 4 on `(HL)`, 3 for `BIT b,(HL)`. -/
def cbCycles (op2 : Byte) : Nat :=
  if op2.toNat % 8 ≠ 6 then 2 else if op2.toNat / 64 = 1 then 3 else 4

/-- The condition field op[4:3] of a conditional instruction (R304). -/
def condField (op : Byte) : Cond :=
  match op.toNat / 8 % 4 with
  | 0 => .nz
  | 1 => .z
  | 2 => .nc
  | _ => .c

/-- T-cycles of the CPU step that `s` is about to make (R904): 20 for an interrupt dispatch, else four times the
M-cycles of the instruction at PC. (0 where the fetch faults: no action follows a fault.) -/
def stepCycles (s : State) : Nat :=
  if s.interruptTaken then 20
  else
    match busRead s s.regs.pc, busRead s (s.regs.pc + 1) with
    | .ok op, next =>
      if op = 0xCB then
        match next with
        | .ok op2 => 4 * cbCycles op2
        | .error _ => 0
      else if s.regs.holds (condField op) then 4 * (primaryCycles op).1
      else 4 * (primaryCycles op).2
    | .error _, _ => 0

/-! ## Actions -/

/-- One action of the driver (R904, R852). -/
def perform (a : Action) (s : State) : Out :=
  match a with
  | .cpu => cpuStep s
  | .timer n => .next (timerStep n s)
  | .ppu => .next (ppuStep s)
  | .input e => .next (s.applyInputs [e])

/-- The device actions that follow a CPU step of `c` T-cycles in the reference schedule (R904). -/
def deviceActions (c : Nat) : List Action := .timer c :: List.replicate c .ppu

/-- The state in which the CPU step of a reference round runs: the round's input events applied, those of the later
rounds left (R904). -/
def roundStart (inputs : List (List InputEvent)) (s : State) : State :=
  (s.applyInputs (inputs.headD [])).setDriver (.reference inputs.tail)

/-- The CPU step of a reference round (R904): its device actions become pending, unless it faulted. -/
def referenceCpuStep (s : State) : Out :=
  match cpuStep s with
  | .next s1 =>
    match s1.status with
    | .running => .next (s1.setQueue (deviceActions (stepCycles s)))
    | .faulted _ => .next s1
  | .fault r => .fault r
  | .refused r => .refused r

/-- A round of the reference schedule (R904): the pending input events, then the CPU step with its device actions. -/
def referenceRound (inputs : List (List InputEvent)) (s : State) : Out := referenceCpuStep (roundStart inputs s)

/-- What the driver does next: the oldest pending action; if none is pending, a CPU step alone, or a round of the
reference schedule (R904, log 2). -/
def driverStep (s : State) : Out :=
  match s.queue with
  | a :: rest => perform a (s.setQueue rest)
  | [] =>
    match s.driver with
    | .host => cpuStep s
    | .reference inputs => referenceRound inputs s

/-- The stop of a machine that a fault has stopped (R801). -/
def faultOf (t : Trap) : Fault :=
  match t.kind with
  | .outOfBounds => .outOfBounds t.info
  | .invalidCpuInstruction => .invalidCpuInstruction t.info
  | .bootRomWrite => .bootRomWrite t.info
  | .badValue => .badValue t.info

end Sys2Proof.Machine
end

