-- ==== Sys2Proof/Machine/Loader.lean ====
section
/-! DEFINITION. The cartridge loader (20_memory.md R230 to R234), which runs before reset, and placing an instruction's
bytes where the CPU fetches (what `State.withFetchWord` is made of). -/

namespace Sys2Proof.Machine

/-! ## Loading a cartridge -/

/-- Why a load fails (R234). *FileError* is the host's (R5). -/
inductive LoadError where
  | unsupported
  | badValue
  | badRomSize
  deriving DecidableEq, Repr

/-- A byte of the file; past its end 0x00, which no accepted file needs (log 9). -/
def fileByte (file : List Byte) (i : Nat) : Byte := file.getD i 0

/-- The mapper variant and the battery flag of a cartridge type byte (R231). -/
def cartridgeType (t : Byte) : Except LoadError (Variant × Bool) :=
  match t.toNat with
  | 0x00 => .ok (.noMbc, false)
  | 0x08 => .ok (.noMbc, false)
  | 0x09 => .ok (.noMbc, true)
  | 0x01 => .ok (.mbc1, false)
  | 0x02 => .ok (.mbc1, false)
  | 0x03 => .ok (.mbc1, true)
  | 0x0F => .ok (.mbc3, true)
  | 0x10 => .ok (.mbc3, true)
  | 0x11 => .ok (.mbc3, false)
  | 0x12 => .ok (.mbc3, false)
  | 0x13 => .ok (.mbc3, true)
  | 0x05 | 0x06 => .error .unsupported
  | 0x0B | 0x0C | 0x0D => .error .unsupported
  | 0x19 | 0x1A | 0x1B | 0x1C | 0x1D | 0x1E => .error .unsupported
  | 0x20 | 0x22 => .error .unsupported
  | 0xFC | 0xFD | 0xFE | 0xFF => .error .unsupported
  | _ => .error .badValue

/-- The ROM bank count of a ROM size code (R232). -/
def romBankCount (k : Byte) : Except LoadError Nat :=
  if k.toNat ≤ 8 then .ok (2 <<< k.toNat) else .error .badValue

/-- The ERAM bank count of a RAM size code (R233). -/
def ramBankCount (k : Byte) : Except LoadError Nat :=
  match k.toNat with
  | 0 => .ok 0
  | 1 => .ok 1
  | 2 => .ok 1
  | 3 => .ok 4
  | 4 => .ok 16
  | 5 => .ok 8
  | _ => .error .badValue

/-- The ROM's length must be what its size code says (R232). -/
def checkRomSize (file : List Byte) (banks : Nat) : Except LoadError Unit :=
  if file.length = banks * Config.romBankSize then .ok () else .error .badRomSize

/-- The header of a ROM file (R230), checked in the order of R234: ROM size, mapper, ERAM size. -/
def parseHeader (file : List Byte) : Except LoadError Header := do
  let romBanks ← romBankCount (fileByte file 0x0148)
  checkRomSize file romBanks
  let kind ← cartridgeType (fileByte file 0x0147)
  let ramBanks ← ramBankCount (fileByte file 0x0149)
  return {
    title := (List.range 16).map fun k => fileByte file (0x0134 + k)
    variant := kind.1
    romBanks := romBanks
    ramBanks := ramBanks
    battery := kind.2
    headerChecksum := fileByte file 0x014D
    globalChecksum := joinBytes (fileByte file 0x014E) (fileByte file 0x014F) }

/-- Load, then reset (R234, R900): the machine, or the load error. The checksums are not verified. -/
def State.load (file boot : List Byte) : Except LoadError State :=
  (parseHeader file).map fun h => State.resetWith h (Memory.ofBytes 0 file) (Memory.ofBytes 0 boot)

/-! ## Placing bytes where the CPU fetches -/

/-- The ROM offset that the mapper reads for a bus address of 0x0000-0x7FFF (R213, R216, R217, R220). -/
def Cartridge.romOffset (c : Cartridge) (n : Nat) : Nat :=
  match c.mapper with
  | .noMbc => n
  | .mbc1 r => if n < 0x4000 then r.rom0Offset n else r.rom1Offset n
  | .mbc3 r => if n < 0x4000 then n else r.rom1Offset n

/-- `s` with the byte that a fetch at `addr` reads replaced; `none` where no memory array of code lies there. -/
def placeByte (s : State) (addr : Word) (v : Byte) : Option State :=
  match route s.bootMode addr with
  | .bootRom => some (s.setBootRom (s.bootRom.write addr.toNat v))
  | .vram => some (s.setVram (s.vram.write (addr.toNat - 0x8000) v))
  | .wram => some (s.setWram (s.wram.write (addr.toNat - 0xC000) v))
  | .hram => some (s.setHram (s.hram.write (addr.toNat - 0xFF80) v))
  | .mapper =>
    if addr.toNat < 0x8000 ∧ s.cart.romOffset addr.toNat < s.cart.romLen then
      some (s.setCart { s.cart with rom := s.cart.rom.write (s.cart.romOffset addr.toNat) v })
    else none
  | .unlisted | .io _ | .ie => none

/-- Places bytes from `addr` on. -/
def placeBytes (s : State) (addr : Word) : List Byte → Option State
  | [] => some s
  | v :: vs => (placeByte s addr v).bind fun s1 => placeBytes s1 (addr + 1) vs

/-- `s` ready to fetch in its next step: running, no action pending, no interrupt about to be taken. -/
def readyToFetch (s : State) : State :=
  ((s.setStatus .running).setQueue []).setIme (s.ime && !s.interruptTaken)

/-- `s` with an instruction's bytes where its next step fetches: at PC, or at 0xC000 (WRAM) with PC there, if PC is at
no memory that holds code. -/
def placeInstruction (s : State) (bytes : List Byte) : State :=
  (placeBytes (readyToFetch s) s.regs.pc bytes).getD
    ((placeBytes ((readyToFetch s).setPc 0xC000) 0xC000 bytes).getD (readyToFetch s))

end Sys2Proof.Machine
end

