-- ==== Sys2Proof/Machine/Step.lean ====
section
/-! DEFINITION. One step of the machine, and the state with a given instruction where that step fetches. -/

namespace Sys2Proof.Machine

/-- One step: the driver's next action; none after a fault (R801, R904). -/
def step (s : State) : Host.Outcome State Fault Refusal :=
  match s.status with
  | .running => driverStep s
  | .faulted t => .fault (faultOf t)

/-- `s` with the instruction of a table word where `step` fetches its next instruction (log 10). From `State.reset` that
is the boot ROM image at 0x0000. -/
def State.withFetchWord (s : State) (nbits w : Nat) : State := placeInstruction s (tableBytes nbits w)

end Sys2Proof.Machine
end

