-- ==== Sys2Proof/Safety.lean ====
section
/-! DEFINITION. What the claims call a running machine and a proper state: the invariants that the rules of spec/ state of
every reachable state. -/

namespace Sys2Proof.Machine

/-- A memory array in canonical form, every offset inside the array. -/
abbrev Memory.Fits (m : Memory) (size : Nat) : Prop := m.wf ∧ ∀ c ∈ m, c.1 < size

/-- The bank register is never 0 (R118, R119). -/
def Mapper.BankNonzero : Mapper → Prop
  | .noMbc => True
  | .mbc1 r => r.romBank ≠ 0
  | .mbc3 r => r.romBank ≠ 0

/-- The bank counts a loader can give (R232, R233). -/
structure Header.Legal (h : Header) : Prop where
  /-- R232: `2 << k` banks, k = 0 to 8. -/
  romBanks : h.romBanks ∈ [2, 4, 8, 16, 32, 64, 128, 256, 512]
  /-- R233: 0, 1, 4, 8 or 16 banks. -/
  ramBanks : h.ramBanks ∈ [0, 1, 4, 8, 16]
  /-- R230: sixteen bytes. -/
  title : h.title.length = 16

/-- What every reachable state keeps. -/
structure State.Inv (s : State) : Prop where
  /-- F[3:0] is zero (R101). -/
  fLow : s.regs.f &&& 0x0F = 0
  /-- The history ring holds at most `HIST_CAP` values (R106). -/
  history : s.history.length ≤ Config.histCap
  /-- WRAM (R110). -/
  wram : s.wram.Fits Config.wramSize
  /-- HRAM (R111). -/
  hram : s.hram.Fits Config.hramSize
  /-- VRAM (R112). -/
  vram : s.vram.Fits Config.vramSize
  /-- The boot ROM (R115). -/
  bootRom : s.bootRom.Fits Config.bootRomSize
  /-- The cartridge ROM (R113). -/
  rom : s.cart.rom.Fits s.cart.romLen
  /-- The external RAM (R114). -/
  eram : s.cart.eram.Fits s.cart.eramLen
  /-- The header is one a loader accepts (R232, R233). -/
  header : s.cart.header.Legal
  /-- The mapper is of the header's variant (R117). -/
  variant : s.cart.mapper.variant = s.cart.header.variant
  /-- No bank register is 0 (R118, R119). -/
  bank : s.cart.mapper.BankNonzero
  /-- STAT's read-only bits are not stored (R122, R839). -/
  statLow : s.ppu.statW &&& 0x07 = 0
  /-- LY is 0 to 153 (R123). -/
  line : s.ppu.line < Config.frameLines
  /-- The dot is 0 to 455 (R123). -/
  dot : s.ppu.dot < Config.lineDots
  /-- The framebuffer is canonical (R124). -/
  fb : s.ppu.fb.wf
  /-- Its cells are the 160 x 144 of the screen (R124). -/
  fbCells : ∀ c ∈ s.ppu.fb, c.1 < Config.screenWidth * Config.visibleLines

/-- A machine that a fault has stopped (R801). -/
def State.stopped (s : State) : Prop := s.status ≠ .running

/-! ## Terms of the claims -/

/-- `o` is a next state that satisfies `P`. -/
def Gives (o : Out) (P : State → Prop) : Prop := ∃ t, o = .next t ∧ P t

/-- The driver's next action is a CPU step with nothing after it: running, no action pending, no reference schedule. -/
structure State.CpuNext (s : State) : Prop where
  running : s.status = .running
  queue : s.queue = []
  driver : s.driver = .host

/-- An address of VRAM, WRAM or HRAM (R201). -/
def RamAddress (a : Word) : Prop :=
  (0x8000 ≤ a.toNat ∧ a.toNat < 0xA000) ∨ (0xC000 ≤ a.toNat ∧ a.toNat < 0xE000) ∨
    (0xFF80 ≤ a.toNat ∧ a.toNat < 0xFFFF)

/-- A register operand holds `v`, or the byte at the address in HL reads as `v` (R10). -/
def OperandReads (s : State) (o : Operand8) (v : Byte) : Prop :=
  match o with
  | .reg r => s.regs.get8 r = v
  | .atHL => busRead s (s.regs.h ++ s.regs.l) = .ok v

/-- `t` is `s` with register `dst` holding `v` and F holding `f`, and nothing else changed. -/
structure WritesReg (s t : State) (dst : Reg8) (v f : Byte) : Prop where
  value : t.regs.get8 dst = v
  others : ∀ r, r ≠ dst → t.regs.get8 r = s.regs.get8 r
  flags : t.regs.f = f
  sp : t.regs.sp = s.regs.sp
  pc : t.regs.pc = s.regs.pc
  rest : t = { s with regs := t.regs }

/-- `o` is the next state in which operand `x` holds `v` and F holds `f`: a register operand changes nothing else; for
`(HL)`, where the bus accepts the byte, the next state is the bus's with F written. -/
def WritesOperand (s : State) (x : Operand8) (v f : Byte) (o : Out) : Prop :=
  match x with
  | .reg r => Gives o fun t => WritesReg s t r v f
  | .atHL => ∀ t, busWrite s (s.regs.h ++ s.regs.l) v = .ok t → o = .next { t with regs := { t.regs with f := f } }

/-- The addresses that an instruction stores to, first stored first, in the state in which it executes (PC past it):
the expressions its meaning uses. `[]` for a form that stores nothing. -/
def storeAddresses (i : Instr) (s : State) : List Word :=
  match i with
  | .ld_BC_d16 _ => []
  | .ld_B_d8 _ => []
  | .ld_atA16_SP v => [v, v + 1]
  | .ld_C_d8 _ => []
  | .stop _ => []
  | .ld_DE_d16 _ => []
  | .ld_D_d8 _ => []
  | .jr_r8 _ => []
  | .ld_E_d8 _ => []
  | .jr_NZ_r8 _ => []
  | .ld_HL_d16 _ => []
  | .ld_H_d8 _ => []
  | .jr_Z_r8 _ => []
  | .ld_L_d8 _ => []
  | .jr_NC_r8 _ => []
  | .ld_SP_d16 _ => []
  | .ld_atHL_d8 _ => [s.regs.hl]
  | .jr_C_r8 _ => []
  | .ld_A_d8 _ => []
  | .jp_NZ_a16 _ => []
  | .jp_a16 _ => []
  | .call_NZ_a16 _ => if s.regs.holds .nz then [s.regs.sp - 2, s.regs.sp - 2 + 1] else []
  | .add_A_d8 _ => []
  | .jp_Z_a16 _ => []
  | .call_Z_a16 _ => if s.regs.holds .z then [s.regs.sp - 2, s.regs.sp - 2 + 1] else []
  | .call_a16 _ => [s.regs.sp - 2, s.regs.sp - 2 + 1]
  | .adc_A_d8 _ => []
  | .jp_NC_a16 _ => []
  | .call_NC_a16 _ => if s.regs.holds .nc then [s.regs.sp - 2, s.regs.sp - 2 + 1] else []
  | .sub_d8 _ => []
  | .jp_C_a16 _ => []
  | .call_C_a16 _ => if s.regs.holds .c then [s.regs.sp - 2, s.regs.sp - 2 + 1] else []
  | .sbc_A_d8 _ => []
  | .ldh_atA8_A v => [highPage v]
  | .and_d8 _ => []
  | .add_SP_r8 _ => []
  | .ld_atA16_A v => [v]
  | .xor_d8 _ => []
  | .ldh_A_atA8 _ => []
  | .or_d8 _ => []
  | .ld_HL_SPr8 _ => []
  | .ld_A_atA16 _ => []
  | .cp_d8 _ => []
  | .nop => []
  | .ld_atBC_A => [s.regs.pair .bc]
  | .inc_BC => []
  | .inc_B => []
  | .dec_B => []
  | .rlca => []
  | .add_HL_BC => []
  | .ld_A_atBC => []
  | .dec_BC => []
  | .inc_C => []
  | .dec_C => []
  | .rrca => []
  | .ld_atDE_A => [s.regs.pair .de]
  | .inc_DE => []
  | .inc_D => []
  | .dec_D => []
  | .rla => []
  | .add_HL_DE => []
  | .ld_A_atDE => []
  | .dec_DE => []
  | .inc_E => []
  | .dec_E => []
  | .rra => []
  | .ld_atHLI_A => [s.regs.hl]
  | .inc_HL => []
  | .inc_H => []
  | .dec_H => []
  | .daa => []
  | .add_HL_HL => []
  | .ld_A_atHLI => []
  | .dec_HL => []
  | .inc_L => []
  | .dec_L => []
  | .cpl => []
  | .ld_atHLD_A => [s.regs.hl]
  | .inc_SP => []
  | .inc_atHL => [s.regs.hl]
  | .dec_atHL => [s.regs.hl]
  | .scf => []
  | .add_HL_SP => []
  | .ld_A_atHLD => []
  | .dec_SP => []
  | .inc_A => []
  | .dec_A => []
  | .ccf => []
  | .ld_B_B => []
  | .ld_B_C => []
  | .ld_B_D => []
  | .ld_B_E => []
  | .ld_B_H => []
  | .ld_B_L => []
  | .ld_B_atHL => []
  | .ld_B_A => []
  | .ld_C_B => []
  | .ld_C_C => []
  | .ld_C_D => []
  | .ld_C_E => []
  | .ld_C_H => []
  | .ld_C_L => []
  | .ld_C_atHL => []
  | .ld_C_A => []
  | .ld_D_B => []
  | .ld_D_C => []
  | .ld_D_D => []
  | .ld_D_E => []
  | .ld_D_H => []
  | .ld_D_L => []
  | .ld_D_atHL => []
  | .ld_D_A => []
  | .ld_E_B => []
  | .ld_E_C => []
  | .ld_E_D => []
  | .ld_E_E => []
  | .ld_E_H => []
  | .ld_E_L => []
  | .ld_E_atHL => []
  | .ld_E_A => []
  | .ld_H_B => []
  | .ld_H_C => []
  | .ld_H_D => []
  | .ld_H_E => []
  | .ld_H_H => []
  | .ld_H_L => []
  | .ld_H_atHL => []
  | .ld_H_A => []
  | .ld_L_B => []
  | .ld_L_C => []
  | .ld_L_D => []
  | .ld_L_E => []
  | .ld_L_H => []
  | .ld_L_L => []
  | .ld_L_atHL => []
  | .ld_L_A => []
  | .ld_atHL_B => [s.regs.hl]
  | .ld_atHL_C => [s.regs.hl]
  | .ld_atHL_D => [s.regs.hl]
  | .ld_atHL_E => [s.regs.hl]
  | .ld_atHL_H => [s.regs.hl]
  | .ld_atHL_L => [s.regs.hl]
  | .halt => []
  | .ld_atHL_A => [s.regs.hl]
  | .ld_A_B => []
  | .ld_A_C => []
  | .ld_A_D => []
  | .ld_A_E => []
  | .ld_A_H => []
  | .ld_A_L => []
  | .ld_A_atHL => []
  | .ld_A_A => []
  | .add_A_B => []
  | .add_A_C => []
  | .add_A_D => []
  | .add_A_E => []
  | .add_A_H => []
  | .add_A_L => []
  | .add_A_atHL => []
  | .add_A_A => []
  | .adc_A_B => []
  | .adc_A_C => []
  | .adc_A_D => []
  | .adc_A_E => []
  | .adc_A_H => []
  | .adc_A_L => []
  | .adc_A_atHL => []
  | .adc_A_A => []
  | .sub_B => []
  | .sub_C => []
  | .sub_D => []
  | .sub_E => []
  | .sub_H => []
  | .sub_L => []
  | .sub_atHL => []
  | .sub_A => []
  | .sbc_A_B => []
  | .sbc_A_C => []
  | .sbc_A_D => []
  | .sbc_A_E => []
  | .sbc_A_H => []
  | .sbc_A_L => []
  | .sbc_A_atHL => []
  | .sbc_A_A => []
  | .and_B => []
  | .and_C => []
  | .and_D => []
  | .and_E => []
  | .and_H => []
  | .and_L => []
  | .and_atHL => []
  | .and_A => []
  | .xor_B => []
  | .xor_C => []
  | .xor_D => []
  | .xor_E => []
  | .xor_H => []
  | .xor_L => []
  | .xor_atHL => []
  | .xor_A => []
  | .or_B => []
  | .or_C => []
  | .or_D => []
  | .or_E => []
  | .or_H => []
  | .or_L => []
  | .or_atHL => []
  | .or_A => []
  | .cp_B => []
  | .cp_C => []
  | .cp_D => []
  | .cp_E => []
  | .cp_H => []
  | .cp_L => []
  | .cp_atHL => []
  | .cp_A => []
  | .ret_NZ => []
  | .pop_BC => []
  | .push_BC => [s.regs.sp - 2, s.regs.sp - 2 + 1]
  | .rst_00h => [s.regs.sp - 2, s.regs.sp - 2 + 1]
  | .ret_Z => []
  | .ret => []
  | .rst_08h => [s.regs.sp - 2, s.regs.sp - 2 + 1]
  | .ret_NC => []
  | .pop_DE => []
  | .undefined_D3 => []
  | .push_DE => [s.regs.sp - 2, s.regs.sp - 2 + 1]
  | .rst_10h => [s.regs.sp - 2, s.regs.sp - 2 + 1]
  | .ret_C => []
  | .reti => []
  | .undefined_DB => []
  | .undefined_DD => []
  | .rst_18h => [s.regs.sp - 2, s.regs.sp - 2 + 1]
  | .pop_HL => []
  | .ld_atC_A => [highPage s.regs.c]
  | .undefined_E3 => []
  | .undefined_E4 => []
  | .push_HL => [s.regs.sp - 2, s.regs.sp - 2 + 1]
  | .rst_20h => [s.regs.sp - 2, s.regs.sp - 2 + 1]
  | .jp_HL => []
  | .undefined_EB => []
  | .undefined_EC => []
  | .undefined_ED => []
  | .rst_28h => [s.regs.sp - 2, s.regs.sp - 2 + 1]
  | .pop_AF => []
  | .ld_A_atC => []
  | .di => []
  | .undefined_F4 => []
  | .push_AF => [s.regs.sp - 2, s.regs.sp - 2 + 1]
  | .rst_30h => [s.regs.sp - 2, s.regs.sp - 2 + 1]
  | .ld_SP_HL => []
  | .ei => []
  | .undefined_FC => []
  | .undefined_FD => []
  | .rst_38h => [s.regs.sp - 2, s.regs.sp - 2 + 1]
  | .rlc_B => []
  | .rlc_C => []
  | .rlc_D => []
  | .rlc_E => []
  | .rlc_H => []
  | .rlc_L => []
  | .rlc_atHL => [s.regs.hl]
  | .rlc_A => []
  | .rrc_B => []
  | .rrc_C => []
  | .rrc_D => []
  | .rrc_E => []
  | .rrc_H => []
  | .rrc_L => []
  | .rrc_atHL => [s.regs.hl]
  | .rrc_A => []
  | .rl_B => []
  | .rl_C => []
  | .rl_D => []
  | .rl_E => []
  | .rl_H => []
  | .rl_L => []
  | .rl_atHL => [s.regs.hl]
  | .rl_A => []
  | .rr_B => []
  | .rr_C => []
  | .rr_D => []
  | .rr_E => []
  | .rr_H => []
  | .rr_L => []
  | .rr_atHL => [s.regs.hl]
  | .rr_A => []
  | .sla_B => []
  | .sla_C => []
  | .sla_D => []
  | .sla_E => []
  | .sla_H => []
  | .sla_L => []
  | .sla_atHL => [s.regs.hl]
  | .sla_A => []
  | .sra_B => []
  | .sra_C => []
  | .sra_D => []
  | .sra_E => []
  | .sra_H => []
  | .sra_L => []
  | .sra_atHL => [s.regs.hl]
  | .sra_A => []
  | .swap_B => []
  | .swap_C => []
  | .swap_D => []
  | .swap_E => []
  | .swap_H => []
  | .swap_L => []
  | .swap_atHL => [s.regs.hl]
  | .swap_A => []
  | .srl_B => []
  | .srl_C => []
  | .srl_D => []
  | .srl_E => []
  | .srl_H => []
  | .srl_L => []
  | .srl_atHL => [s.regs.hl]
  | .srl_A => []
  | .bit_0_B => []
  | .bit_0_C => []
  | .bit_0_D => []
  | .bit_0_E => []
  | .bit_0_H => []
  | .bit_0_L => []
  | .bit_0_atHL => []
  | .bit_0_A => []
  | .bit_1_B => []
  | .bit_1_C => []
  | .bit_1_D => []
  | .bit_1_E => []
  | .bit_1_H => []
  | .bit_1_L => []
  | .bit_1_atHL => []
  | .bit_1_A => []
  | .bit_2_B => []
  | .bit_2_C => []
  | .bit_2_D => []
  | .bit_2_E => []
  | .bit_2_H => []
  | .bit_2_L => []
  | .bit_2_atHL => []
  | .bit_2_A => []
  | .bit_3_B => []
  | .bit_3_C => []
  | .bit_3_D => []
  | .bit_3_E => []
  | .bit_3_H => []
  | .bit_3_L => []
  | .bit_3_atHL => []
  | .bit_3_A => []
  | .bit_4_B => []
  | .bit_4_C => []
  | .bit_4_D => []
  | .bit_4_E => []
  | .bit_4_H => []
  | .bit_4_L => []
  | .bit_4_atHL => []
  | .bit_4_A => []
  | .bit_5_B => []
  | .bit_5_C => []
  | .bit_5_D => []
  | .bit_5_E => []
  | .bit_5_H => []
  | .bit_5_L => []
  | .bit_5_atHL => []
  | .bit_5_A => []
  | .bit_6_B => []
  | .bit_6_C => []
  | .bit_6_D => []
  | .bit_6_E => []
  | .bit_6_H => []
  | .bit_6_L => []
  | .bit_6_atHL => []
  | .bit_6_A => []
  | .bit_7_B => []
  | .bit_7_C => []
  | .bit_7_D => []
  | .bit_7_E => []
  | .bit_7_H => []
  | .bit_7_L => []
  | .bit_7_atHL => []
  | .bit_7_A => []
  | .res_0_B => []
  | .res_0_C => []
  | .res_0_D => []
  | .res_0_E => []
  | .res_0_H => []
  | .res_0_L => []
  | .res_0_atHL => [s.regs.hl]
  | .res_0_A => []
  | .res_1_B => []
  | .res_1_C => []
  | .res_1_D => []
  | .res_1_E => []
  | .res_1_H => []
  | .res_1_L => []
  | .res_1_atHL => [s.regs.hl]
  | .res_1_A => []
  | .res_2_B => []
  | .res_2_C => []
  | .res_2_D => []
  | .res_2_E => []
  | .res_2_H => []
  | .res_2_L => []
  | .res_2_atHL => [s.regs.hl]
  | .res_2_A => []
  | .res_3_B => []
  | .res_3_C => []
  | .res_3_D => []
  | .res_3_E => []
  | .res_3_H => []
  | .res_3_L => []
  | .res_3_atHL => [s.regs.hl]
  | .res_3_A => []
  | .res_4_B => []
  | .res_4_C => []
  | .res_4_D => []
  | .res_4_E => []
  | .res_4_H => []
  | .res_4_L => []
  | .res_4_atHL => [s.regs.hl]
  | .res_4_A => []
  | .res_5_B => []
  | .res_5_C => []
  | .res_5_D => []
  | .res_5_E => []
  | .res_5_H => []
  | .res_5_L => []
  | .res_5_atHL => [s.regs.hl]
  | .res_5_A => []
  | .res_6_B => []
  | .res_6_C => []
  | .res_6_D => []
  | .res_6_E => []
  | .res_6_H => []
  | .res_6_L => []
  | .res_6_atHL => [s.regs.hl]
  | .res_6_A => []
  | .res_7_B => []
  | .res_7_C => []
  | .res_7_D => []
  | .res_7_E => []
  | .res_7_H => []
  | .res_7_L => []
  | .res_7_atHL => [s.regs.hl]
  | .res_7_A => []
  | .set_0_B => []
  | .set_0_C => []
  | .set_0_D => []
  | .set_0_E => []
  | .set_0_H => []
  | .set_0_L => []
  | .set_0_atHL => [s.regs.hl]
  | .set_0_A => []
  | .set_1_B => []
  | .set_1_C => []
  | .set_1_D => []
  | .set_1_E => []
  | .set_1_H => []
  | .set_1_L => []
  | .set_1_atHL => [s.regs.hl]
  | .set_1_A => []
  | .set_2_B => []
  | .set_2_C => []
  | .set_2_D => []
  | .set_2_E => []
  | .set_2_H => []
  | .set_2_L => []
  | .set_2_atHL => [s.regs.hl]
  | .set_2_A => []
  | .set_3_B => []
  | .set_3_C => []
  | .set_3_D => []
  | .set_3_E => []
  | .set_3_H => []
  | .set_3_L => []
  | .set_3_atHL => [s.regs.hl]
  | .set_3_A => []
  | .set_4_B => []
  | .set_4_C => []
  | .set_4_D => []
  | .set_4_E => []
  | .set_4_H => []
  | .set_4_L => []
  | .set_4_atHL => [s.regs.hl]
  | .set_4_A => []
  | .set_5_B => []
  | .set_5_C => []
  | .set_5_D => []
  | .set_5_E => []
  | .set_5_H => []
  | .set_5_L => []
  | .set_5_atHL => [s.regs.hl]
  | .set_5_A => []
  | .set_6_B => []
  | .set_6_C => []
  | .set_6_D => []
  | .set_6_E => []
  | .set_6_H => []
  | .set_6_L => []
  | .set_6_atHL => [s.regs.hl]
  | .set_6_A => []
  | .set_7_B => []
  | .set_7_C => []
  | .set_7_D => []
  | .set_7_E => []
  | .set_7_H => []
  | .set_7_L => []
  | .set_7_atHL => [s.regs.hl]
  | .set_7_A => []

/-- Which of IME, SP, PC (beyond advancing past the instruction) and F an instruction may write. -/
structure Writes where
  ime : Bool := false
  sp : Bool := false
  pc : Bool := false
  f : Bool := false
  deriving DecidableEq, Repr

/-- What each instruction's rule names as written: IME (R105), SP (R103), PC (46_control.md), F (R102 and the flag lines
of 40_load8.md to 47_misc.md). -/
def writesOf (i : Instr) : Writes :=
  match i with
  | .ld_BC_d16 _ => {}
  | .ld_B_d8 _ => {}
  | .ld_atA16_SP _ => {}
  | .ld_C_d8 _ => {}
  | .stop _ => {}
  | .ld_DE_d16 _ => {}
  | .ld_D_d8 _ => {}
  | .jr_r8 _ => { pc := true }
  | .ld_E_d8 _ => {}
  | .jr_NZ_r8 _ => { pc := true }
  | .ld_HL_d16 _ => {}
  | .ld_H_d8 _ => {}
  | .jr_Z_r8 _ => { pc := true }
  | .ld_L_d8 _ => {}
  | .jr_NC_r8 _ => { pc := true }
  | .ld_SP_d16 _ => { sp := true }
  | .ld_atHL_d8 _ => {}
  | .jr_C_r8 _ => { pc := true }
  | .ld_A_d8 _ => {}
  | .jp_NZ_a16 _ => { pc := true }
  | .jp_a16 _ => { pc := true }
  | .call_NZ_a16 _ => { sp := true, pc := true }
  | .add_A_d8 _ => { f := true }
  | .jp_Z_a16 _ => { pc := true }
  | .call_Z_a16 _ => { sp := true, pc := true }
  | .call_a16 _ => { sp := true, pc := true }
  | .adc_A_d8 _ => { f := true }
  | .jp_NC_a16 _ => { pc := true }
  | .call_NC_a16 _ => { sp := true, pc := true }
  | .sub_d8 _ => { f := true }
  | .jp_C_a16 _ => { pc := true }
  | .call_C_a16 _ => { sp := true, pc := true }
  | .sbc_A_d8 _ => { f := true }
  | .ldh_atA8_A _ => {}
  | .and_d8 _ => { f := true }
  | .add_SP_r8 _ => { sp := true, f := true }
  | .ld_atA16_A _ => {}
  | .xor_d8 _ => { f := true }
  | .ldh_A_atA8 _ => {}
  | .or_d8 _ => { f := true }
  | .ld_HL_SPr8 _ => { f := true }
  | .ld_A_atA16 _ => {}
  | .cp_d8 _ => { f := true }
  | .nop => {}
  | .ld_atBC_A => {}
  | .inc_BC => {}
  | .inc_B => { f := true }
  | .dec_B => { f := true }
  | .rlca => { f := true }
  | .add_HL_BC => { f := true }
  | .ld_A_atBC => {}
  | .dec_BC => {}
  | .inc_C => { f := true }
  | .dec_C => { f := true }
  | .rrca => { f := true }
  | .ld_atDE_A => {}
  | .inc_DE => {}
  | .inc_D => { f := true }
  | .dec_D => { f := true }
  | .rla => { f := true }
  | .add_HL_DE => { f := true }
  | .ld_A_atDE => {}
  | .dec_DE => {}
  | .inc_E => { f := true }
  | .dec_E => { f := true }
  | .rra => { f := true }
  | .ld_atHLI_A => {}
  | .inc_HL => {}
  | .inc_H => { f := true }
  | .dec_H => { f := true }
  | .daa => { f := true }
  | .add_HL_HL => { f := true }
  | .ld_A_atHLI => {}
  | .dec_HL => {}
  | .inc_L => { f := true }
  | .dec_L => { f := true }
  | .cpl => { f := true }
  | .ld_atHLD_A => {}
  | .inc_SP => { sp := true }
  | .inc_atHL => { f := true }
  | .dec_atHL => { f := true }
  | .scf => { f := true }
  | .add_HL_SP => { f := true }
  | .ld_A_atHLD => {}
  | .dec_SP => { sp := true }
  | .inc_A => { f := true }
  | .dec_A => { f := true }
  | .ccf => { f := true }
  | .ld_B_B => {}
  | .ld_B_C => {}
  | .ld_B_D => {}
  | .ld_B_E => {}
  | .ld_B_H => {}
  | .ld_B_L => {}
  | .ld_B_atHL => {}
  | .ld_B_A => {}
  | .ld_C_B => {}
  | .ld_C_C => {}
  | .ld_C_D => {}
  | .ld_C_E => {}
  | .ld_C_H => {}
  | .ld_C_L => {}
  | .ld_C_atHL => {}
  | .ld_C_A => {}
  | .ld_D_B => {}
  | .ld_D_C => {}
  | .ld_D_D => {}
  | .ld_D_E => {}
  | .ld_D_H => {}
  | .ld_D_L => {}
  | .ld_D_atHL => {}
  | .ld_D_A => {}
  | .ld_E_B => {}
  | .ld_E_C => {}
  | .ld_E_D => {}
  | .ld_E_E => {}
  | .ld_E_H => {}
  | .ld_E_L => {}
  | .ld_E_atHL => {}
  | .ld_E_A => {}
  | .ld_H_B => {}
  | .ld_H_C => {}
  | .ld_H_D => {}
  | .ld_H_E => {}
  | .ld_H_H => {}
  | .ld_H_L => {}
  | .ld_H_atHL => {}
  | .ld_H_A => {}
  | .ld_L_B => {}
  | .ld_L_C => {}
  | .ld_L_D => {}
  | .ld_L_E => {}
  | .ld_L_H => {}
  | .ld_L_L => {}
  | .ld_L_atHL => {}
  | .ld_L_A => {}
  | .ld_atHL_B => {}
  | .ld_atHL_C => {}
  | .ld_atHL_D => {}
  | .ld_atHL_E => {}
  | .ld_atHL_H => {}
  | .ld_atHL_L => {}
  | .halt => {}
  | .ld_atHL_A => {}
  | .ld_A_B => {}
  | .ld_A_C => {}
  | .ld_A_D => {}
  | .ld_A_E => {}
  | .ld_A_H => {}
  | .ld_A_L => {}
  | .ld_A_atHL => {}
  | .ld_A_A => {}
  | .add_A_B => { f := true }
  | .add_A_C => { f := true }
  | .add_A_D => { f := true }
  | .add_A_E => { f := true }
  | .add_A_H => { f := true }
  | .add_A_L => { f := true }
  | .add_A_atHL => { f := true }
  | .add_A_A => { f := true }
  | .adc_A_B => { f := true }
  | .adc_A_C => { f := true }
  | .adc_A_D => { f := true }
  | .adc_A_E => { f := true }
  | .adc_A_H => { f := true }
  | .adc_A_L => { f := true }
  | .adc_A_atHL => { f := true }
  | .adc_A_A => { f := true }
  | .sub_B => { f := true }
  | .sub_C => { f := true }
  | .sub_D => { f := true }
  | .sub_E => { f := true }
  | .sub_H => { f := true }
  | .sub_L => { f := true }
  | .sub_atHL => { f := true }
  | .sub_A => { f := true }
  | .sbc_A_B => { f := true }
  | .sbc_A_C => { f := true }
  | .sbc_A_D => { f := true }
  | .sbc_A_E => { f := true }
  | .sbc_A_H => { f := true }
  | .sbc_A_L => { f := true }
  | .sbc_A_atHL => { f := true }
  | .sbc_A_A => { f := true }
  | .and_B => { f := true }
  | .and_C => { f := true }
  | .and_D => { f := true }
  | .and_E => { f := true }
  | .and_H => { f := true }
  | .and_L => { f := true }
  | .and_atHL => { f := true }
  | .and_A => { f := true }
  | .xor_B => { f := true }
  | .xor_C => { f := true }
  | .xor_D => { f := true }
  | .xor_E => { f := true }
  | .xor_H => { f := true }
  | .xor_L => { f := true }
  | .xor_atHL => { f := true }
  | .xor_A => { f := true }
  | .or_B => { f := true }
  | .or_C => { f := true }
  | .or_D => { f := true }
  | .or_E => { f := true }
  | .or_H => { f := true }
  | .or_L => { f := true }
  | .or_atHL => { f := true }
  | .or_A => { f := true }
  | .cp_B => { f := true }
  | .cp_C => { f := true }
  | .cp_D => { f := true }
  | .cp_E => { f := true }
  | .cp_H => { f := true }
  | .cp_L => { f := true }
  | .cp_atHL => { f := true }
  | .cp_A => { f := true }
  | .ret_NZ => { sp := true, pc := true }
  | .pop_BC => { sp := true }
  | .push_BC => { sp := true }
  | .rst_00h => { sp := true, pc := true }
  | .ret_Z => { sp := true, pc := true }
  | .ret => { sp := true, pc := true }
  | .rst_08h => { sp := true, pc := true }
  | .ret_NC => { sp := true, pc := true }
  | .pop_DE => { sp := true }
  | .undefined_D3 => {}
  | .push_DE => { sp := true }
  | .rst_10h => { sp := true, pc := true }
  | .ret_C => { sp := true, pc := true }
  | .reti => { ime := true, sp := true, pc := true }
  | .undefined_DB => {}
  | .undefined_DD => {}
  | .rst_18h => { sp := true, pc := true }
  | .pop_HL => { sp := true }
  | .ld_atC_A => {}
  | .undefined_E3 => {}
  | .undefined_E4 => {}
  | .push_HL => { sp := true }
  | .rst_20h => { sp := true, pc := true }
  | .jp_HL => { pc := true }
  | .undefined_EB => {}
  | .undefined_EC => {}
  | .undefined_ED => {}
  | .rst_28h => { sp := true, pc := true }
  | .pop_AF => { sp := true, f := true }
  | .ld_A_atC => {}
  | .di => { ime := true }
  | .undefined_F4 => {}
  | .push_AF => { sp := true }
  | .rst_30h => { sp := true, pc := true }
  | .ld_SP_HL => { sp := true }
  | .ei => { ime := true }
  | .undefined_FC => {}
  | .undefined_FD => {}
  | .rst_38h => { sp := true, pc := true }
  | .rlc_B => { f := true }
  | .rlc_C => { f := true }
  | .rlc_D => { f := true }
  | .rlc_E => { f := true }
  | .rlc_H => { f := true }
  | .rlc_L => { f := true }
  | .rlc_atHL => { f := true }
  | .rlc_A => { f := true }
  | .rrc_B => { f := true }
  | .rrc_C => { f := true }
  | .rrc_D => { f := true }
  | .rrc_E => { f := true }
  | .rrc_H => { f := true }
  | .rrc_L => { f := true }
  | .rrc_atHL => { f := true }
  | .rrc_A => { f := true }
  | .rl_B => { f := true }
  | .rl_C => { f := true }
  | .rl_D => { f := true }
  | .rl_E => { f := true }
  | .rl_H => { f := true }
  | .rl_L => { f := true }
  | .rl_atHL => { f := true }
  | .rl_A => { f := true }
  | .rr_B => { f := true }
  | .rr_C => { f := true }
  | .rr_D => { f := true }
  | .rr_E => { f := true }
  | .rr_H => { f := true }
  | .rr_L => { f := true }
  | .rr_atHL => { f := true }
  | .rr_A => { f := true }
  | .sla_B => { f := true }
  | .sla_C => { f := true }
  | .sla_D => { f := true }
  | .sla_E => { f := true }
  | .sla_H => { f := true }
  | .sla_L => { f := true }
  | .sla_atHL => { f := true }
  | .sla_A => { f := true }
  | .sra_B => { f := true }
  | .sra_C => { f := true }
  | .sra_D => { f := true }
  | .sra_E => { f := true }
  | .sra_H => { f := true }
  | .sra_L => { f := true }
  | .sra_atHL => { f := true }
  | .sra_A => { f := true }
  | .swap_B => { f := true }
  | .swap_C => { f := true }
  | .swap_D => { f := true }
  | .swap_E => { f := true }
  | .swap_H => { f := true }
  | .swap_L => { f := true }
  | .swap_atHL => { f := true }
  | .swap_A => { f := true }
  | .srl_B => { f := true }
  | .srl_C => { f := true }
  | .srl_D => { f := true }
  | .srl_E => { f := true }
  | .srl_H => { f := true }
  | .srl_L => { f := true }
  | .srl_atHL => { f := true }
  | .srl_A => { f := true }
  | .bit_0_B => { f := true }
  | .bit_0_C => { f := true }
  | .bit_0_D => { f := true }
  | .bit_0_E => { f := true }
  | .bit_0_H => { f := true }
  | .bit_0_L => { f := true }
  | .bit_0_atHL => { f := true }
  | .bit_0_A => { f := true }
  | .bit_1_B => { f := true }
  | .bit_1_C => { f := true }
  | .bit_1_D => { f := true }
  | .bit_1_E => { f := true }
  | .bit_1_H => { f := true }
  | .bit_1_L => { f := true }
  | .bit_1_atHL => { f := true }
  | .bit_1_A => { f := true }
  | .bit_2_B => { f := true }
  | .bit_2_C => { f := true }
  | .bit_2_D => { f := true }
  | .bit_2_E => { f := true }
  | .bit_2_H => { f := true }
  | .bit_2_L => { f := true }
  | .bit_2_atHL => { f := true }
  | .bit_2_A => { f := true }
  | .bit_3_B => { f := true }
  | .bit_3_C => { f := true }
  | .bit_3_D => { f := true }
  | .bit_3_E => { f := true }
  | .bit_3_H => { f := true }
  | .bit_3_L => { f := true }
  | .bit_3_atHL => { f := true }
  | .bit_3_A => { f := true }
  | .bit_4_B => { f := true }
  | .bit_4_C => { f := true }
  | .bit_4_D => { f := true }
  | .bit_4_E => { f := true }
  | .bit_4_H => { f := true }
  | .bit_4_L => { f := true }
  | .bit_4_atHL => { f := true }
  | .bit_4_A => { f := true }
  | .bit_5_B => { f := true }
  | .bit_5_C => { f := true }
  | .bit_5_D => { f := true }
  | .bit_5_E => { f := true }
  | .bit_5_H => { f := true }
  | .bit_5_L => { f := true }
  | .bit_5_atHL => { f := true }
  | .bit_5_A => { f := true }
  | .bit_6_B => { f := true }
  | .bit_6_C => { f := true }
  | .bit_6_D => { f := true }
  | .bit_6_E => { f := true }
  | .bit_6_H => { f := true }
  | .bit_6_L => { f := true }
  | .bit_6_atHL => { f := true }
  | .bit_6_A => { f := true }
  | .bit_7_B => { f := true }
  | .bit_7_C => { f := true }
  | .bit_7_D => { f := true }
  | .bit_7_E => { f := true }
  | .bit_7_H => { f := true }
  | .bit_7_L => { f := true }
  | .bit_7_atHL => { f := true }
  | .bit_7_A => { f := true }
  | .res_0_B => {}
  | .res_0_C => {}
  | .res_0_D => {}
  | .res_0_E => {}
  | .res_0_H => {}
  | .res_0_L => {}
  | .res_0_atHL => {}
  | .res_0_A => {}
  | .res_1_B => {}
  | .res_1_C => {}
  | .res_1_D => {}
  | .res_1_E => {}
  | .res_1_H => {}
  | .res_1_L => {}
  | .res_1_atHL => {}
  | .res_1_A => {}
  | .res_2_B => {}
  | .res_2_C => {}
  | .res_2_D => {}
  | .res_2_E => {}
  | .res_2_H => {}
  | .res_2_L => {}
  | .res_2_atHL => {}
  | .res_2_A => {}
  | .res_3_B => {}
  | .res_3_C => {}
  | .res_3_D => {}
  | .res_3_E => {}
  | .res_3_H => {}
  | .res_3_L => {}
  | .res_3_atHL => {}
  | .res_3_A => {}
  | .res_4_B => {}
  | .res_4_C => {}
  | .res_4_D => {}
  | .res_4_E => {}
  | .res_4_H => {}
  | .res_4_L => {}
  | .res_4_atHL => {}
  | .res_4_A => {}
  | .res_5_B => {}
  | .res_5_C => {}
  | .res_5_D => {}
  | .res_5_E => {}
  | .res_5_H => {}
  | .res_5_L => {}
  | .res_5_atHL => {}
  | .res_5_A => {}
  | .res_6_B => {}
  | .res_6_C => {}
  | .res_6_D => {}
  | .res_6_E => {}
  | .res_6_H => {}
  | .res_6_L => {}
  | .res_6_atHL => {}
  | .res_6_A => {}
  | .res_7_B => {}
  | .res_7_C => {}
  | .res_7_D => {}
  | .res_7_E => {}
  | .res_7_H => {}
  | .res_7_L => {}
  | .res_7_atHL => {}
  | .res_7_A => {}
  | .set_0_B => {}
  | .set_0_C => {}
  | .set_0_D => {}
  | .set_0_E => {}
  | .set_0_H => {}
  | .set_0_L => {}
  | .set_0_atHL => {}
  | .set_0_A => {}
  | .set_1_B => {}
  | .set_1_C => {}
  | .set_1_D => {}
  | .set_1_E => {}
  | .set_1_H => {}
  | .set_1_L => {}
  | .set_1_atHL => {}
  | .set_1_A => {}
  | .set_2_B => {}
  | .set_2_C => {}
  | .set_2_D => {}
  | .set_2_E => {}
  | .set_2_H => {}
  | .set_2_L => {}
  | .set_2_atHL => {}
  | .set_2_A => {}
  | .set_3_B => {}
  | .set_3_C => {}
  | .set_3_D => {}
  | .set_3_E => {}
  | .set_3_H => {}
  | .set_3_L => {}
  | .set_3_atHL => {}
  | .set_3_A => {}
  | .set_4_B => {}
  | .set_4_C => {}
  | .set_4_D => {}
  | .set_4_E => {}
  | .set_4_H => {}
  | .set_4_L => {}
  | .set_4_atHL => {}
  | .set_4_A => {}
  | .set_5_B => {}
  | .set_5_C => {}
  | .set_5_D => {}
  | .set_5_E => {}
  | .set_5_H => {}
  | .set_5_L => {}
  | .set_5_atHL => {}
  | .set_5_A => {}
  | .set_6_B => {}
  | .set_6_C => {}
  | .set_6_D => {}
  | .set_6_E => {}
  | .set_6_H => {}
  | .set_6_L => {}
  | .set_6_atHL => {}
  | .set_6_A => {}
  | .set_7_B => {}
  | .set_7_C => {}
  | .set_7_D => {}
  | .set_7_E => {}
  | .set_7_H => {}
  | .set_7_L => {}
  | .set_7_atHL => {}
  | .set_7_A => {}

end Sys2Proof.Machine
end

