-- ==== Sys2Proof/Certificates/Slice0/Obligations.lean ====
section
/-! DEFINITION. The statements about the SM83 core for the provers: one `def Obligations.<Name> : Prop` each. Each
docstring names the rule of spec/ it formalises; `OBLIGATIONS.json` lists them. Next states are written out in full
(`{ s with … }`), so that each such equation is also the frame: whatever is not named is unchanged. -/

open Sys2Proof Sys2Proof.Machine

/-! ## Decoding and encoding -/

/-- Decoding an encoded instruction gives it back with every operand, and leaves the bytes after it (R300 to R308). -/
def Obligations.DecodeInvertsEncode : Prop :=
  ∀ (i : Instr) (rest : List Byte), decode (encode i ++ rest) = .ok (i, rest)

/-- Every byte sequence that decodes is the encoding of what it decodes to: each word has one meaning (R300, R310, R311). -/
def Obligations.EncodeInvertsDecode : Prop :=
  ∀ (bytes rest : List Byte) (i : Instr), decode bytes = .ok (i, rest) → encode i ++ rest = bytes

/-- The opcode bytes that the source shows (30_encoding.md, preamble) decode to the instructions it names. -/
def Obligations.SourceBytesDecode : Prop :=
  decode [0x27] = .ok (.daa, []) ∧ decode [0x3E, 0x42] = .ok (.ld_A_d8 0x42, []) ∧
  decode [0x47] = .ok (.ld_B_A, []) ∧ decode [0x4F] = .ok (.ld_C_A, []) ∧ decode [0x51] = .ok (.ld_D_C, []) ∧
  decode [0x5A] = .ok (.ld_E_D, []) ∧ decode [0x63] = .ok (.ld_H_E, []) ∧ decode [0x6C] = .ok (.ld_L_H, []) ∧
  decode [0x77] = .ok (.ld_atHL_A, []) ∧ decode [0xC6, 0x38] = .ok (.add_A_d8 0x38, []) ∧
  decode [0xCF] = .ok (.rst_08h, []) ∧ decode [0xC3, 0x00, 0x02] = .ok (.jp_a16 0x0200, []) ∧
  decode [0xCB, 0x7F] = .ok (.bit_7_A, [])

/-- The opcode bytes of R312. -/
def undefinedBytes : List Byte := [0xD3, 0xDB, 0xDD, 0xE3, 0xE4, 0xEB, 0xEC, 0xED, 0xF4, 0xFC, 0xFD]

/-- The byte of each undefined opcode (R312). -/
def undefinedByte : UndefinedOp → Byte
  | .xD3 => 0xD3
  | .xDB => 0xDB
  | .xDD => 0xDD
  | .xE3 => 0xE3
  | .xE4 => 0xE4
  | .xEB => 0xEB
  | .xEC => 0xEC
  | .xED => 0xED
  | .xF4 => 0xF4
  | .xFC => 0xFC
  | .xFD => 0xFD

/-- The PC history after a step that fetches at PC (R106, R309). -/
def historyAfter (s : State) : List Word :=
  if s.history.length < 5 then s.history ++ [s.regs.pc] else (s.history ++ [s.regs.pc]).drop (s.history.length - 4)

/-- R312: an undefined opcode faults after its fetch, PC past it, nothing else changed and no further byte fetched; its
meaning is that fault; the eleven are the only illegal encodings. -/
def Obligations.UndefinedOpcodesFault : Prop :=
  (∀ (s : State) (op : Byte), s.CpuNext → s.interruptTaken = false → busRead s s.regs.pc = .ok op →
    op ∈ undefinedBytes →
    step s = .next { s with
      history := historyAfter s
      regs := { s.regs with pc := s.regs.pc + 1 }
      status := .faulted ⟨.invalidCpuInstruction, op.setWidth 16⟩ }) ∧
  (∀ (s : State) (u : UndefinedOp),
    exec (Instr.undefinedOp u) s =
      .next { s with status := .faulted ⟨.invalidCpuInstruction, (undefinedByte u).setWidth 16⟩ }) ∧
  (∀ (op : Byte) (bytes rest : List Byte) (i : Instr), decode (op :: bytes) = .ok (i, rest) →
    (¬ WellFormed i ↔ op ∈ undefinedBytes))

/-! ## The CPU step -/

/-- R309 (its fetch, decode and dispatch): a step whose bytes at PC decode to `i` is `exec i`, with PC past the bytes and
the old PC appended to the history ring; the bytes are read at PC, PC + 1, … mod 2^16. -/
def Obligations.StepRunsDecodedInstruction : Prop :=
  ∀ (s : State) (i : Instr) (bytes : List Byte), s.CpuNext → (s.ime = false ∨ s.ie &&& s.iflag &&& 0x1F = 0) →
    decode bytes = .ok (i, []) →
    (∀ (k : Nat) (h : k < bytes.length), busRead s (s.regs.pc + BitVec.ofNat 16 k) = .ok bytes[k]) →
    step s = exec i { s with
      history := historyAfter s
      regs := { s.regs with pc := s.regs.pc + BitVec.ofNat 16 bytes.length } }

/-- `k` is the source that is serviced: pending, enabled, and the lowest such (R806, R807). -/
def Serviced (s : State) (k : Nat) : Prop :=
  k < 5 ∧ (s.ie &&& s.iflag).getLsbD k = true ∧ ∀ j, j < k → (s.ie &&& s.iflag).getLsbD j = false

/-- The state in which dispatch pushes PC: IME and the serviced IF bit cleared, SP lowered by 2 (R808, R450). -/
def dispatching (s : State) (k : Nat) : State :=
  { s with
    ime := false
    iflag := s.iflag &&& ~~~(1#8 <<< k)
    regs := { s.regs with sp := s.regs.sp - 2 } }

/-- R807, R808: with IME set, the step is the dispatch of the lowest pending enabled source: IME and its IF bit cleared,
PC pushed low byte first, PC at the vector `0x0040 + 8 k`; no fetch. If a stack write faults, the step ends with IME and
the IF bit already cleared. -/
def Obligations.InterruptDispatch : Prop :=
  ∀ (s : State) (k : Nat), s.CpuNext → s.ime = true → Serviced s k →
    (∀ t1 t2, busWrite (dispatching s k) (s.regs.sp - 2) (s.regs.pc.setWidth 8) = .ok t1 →
      busWrite t1 (s.regs.sp - 1) ((s.regs.pc >>> 8).setWidth 8) = .ok t2 →
      step s = .next { t2 with regs := { t2.regs with pc := BitVec.ofNat 16 (0x0040 + 8 * k) } }) ∧
    (∀ e, busWrite (dispatching s k) (s.regs.sp - 2) (s.regs.pc.setWidth 8) = .error e →
      step s = .next { dispatching s k with status := .faulted e }) ∧
    (∀ t1 e, busWrite (dispatching s k) (s.regs.sp - 2) (s.regs.pc.setWidth 8) = .ok t1 →
      busWrite t1 (s.regs.sp - 1) ((s.regs.pc >>> 8).setWidth 8) = .error e →
      step s = .next { t1 with status := .faulted e })

/-- R801 (its last half): after a fault no component steps, whatever the host's driver has pending. -/
def Obligations.FaultedMachineStops : Prop :=
  ∀ (s : State) (w : Word),
    (s.status = .faulted ⟨.outOfBounds, w⟩ → step s = .fault (.outOfBounds w)) ∧
    (s.status = .faulted ⟨.invalidCpuInstruction, w⟩ → step s = .fault (.invalidCpuInstruction w)) ∧
    (s.status = .faulted ⟨.bootRomWrite, w⟩ → step s = .fault (.bootRomWrite w)) ∧
    (s.status = .faulted ⟨.badValue, w⟩ → step s = .fault (.badValue w))

/-- The state in which the fetch of the byte `n` bytes after the opcode begins (R104, R309). -/
def fetching (s : State) (n : Nat) : State :=
  { s with history := historyAfter s, regs := { s.regs with pc := s.regs.pc + BitVec.ofNat 16 n } }

/-- R802 (its clause on fetches): a fetch that faults leaves PC at the byte that could not be read, the history ring
holding the step's PC, and nothing else changed. -/
def Obligations.FetchFaultIsPrecise : Prop :=
  ∀ (s : State) (e : Trap), s.CpuNext → s.interruptTaken = false →
    (busRead s s.regs.pc = .error e → step s = .next { fetching s 0 with status := .faulted e }) ∧
    (∀ op, busRead s s.regs.pc = .ok op → 2 ≤ lengthOf op → busRead s (s.regs.pc + 1) = .error e →
      step s = .next { fetching s 1 with status := .faulted e }) ∧
    (∀ op v, busRead s s.regs.pc = .ok op → lengthOf op = 3 → busRead s (s.regs.pc + 1) = .ok v →
      busRead s (s.regs.pc + 2) = .error e → step s = .next { fetching s 2 with status := .faulted e })

/-! ## Faulting data accesses -/

/-- `o` is `s` stopped by the fault `e`, nothing else changed (R801, R802). -/
def StopsIn (o : Out) (s : State) (e : Trap) : Prop := o = .next { s with status := .faulted e }

/-- R802: an instruction whose first operand read faults changes nothing but the status. (The reads of `LDH A,(a8)` and
`LD A,(C)` go to 0xFF00-0xFFFF, where no access faults.) -/
def Obligations.OperandReadFaultIsPrecise : Prop :=
  ∀ (s : State) (e : Trap),
    (busRead s (s.regs.h ++ s.regs.l) = .error e →
      (∀ dst, StopsIn (exec (Instr.ldRegAtHL dst) s) s e) ∧ StopsIn (exec .ld_A_atHLI s) s e ∧
      StopsIn (exec .ld_A_atHLD s) s e ∧ (∀ op, StopsIn (exec (Instr.alu op .atHL) s) s e) ∧
      StopsIn (exec (Instr.inc .atHL) s) s e ∧ StopsIn (exec (Instr.dec .atHL) s) s e ∧
      (∀ op, StopsIn (exec (Instr.rot op .atHL) s) s e) ∧ (∀ b, StopsIn (exec (Instr.bit b .atHL) s) s e) ∧
      (∀ b, StopsIn (exec (Instr.res b .atHL) s) s e) ∧ (∀ b, StopsIn (exec (Instr.set b .atHL) s) s e)) ∧
    (busRead s (s.regs.b ++ s.regs.c) = .error e → StopsIn (exec .ld_A_atBC s) s e) ∧
    (busRead s (s.regs.d ++ s.regs.e) = .error e → StopsIn (exec .ld_A_atDE s) s e) ∧
    (∀ a, busRead s a = .error e → StopsIn (exec (.ld_A_atA16 a) s) s e) ∧
    (∀ lo, busRead s s.regs.sp = .error e ∨
        (busRead s s.regs.sp = .ok lo ∧ busRead s (s.regs.sp + 1) = .error e) →
      (∀ q, StopsIn (exec (Instr.pop q) s) s e) ∧ StopsIn (exec .ret s) s e ∧ StopsIn (exec .reti s) s e ∧
      (∀ cc, s.regs.holds cc = true → StopsIn (exec (Instr.retCond cc) s) s e))

/-- R802: an instruction whose first store faults leaves the operands, HL and the flags as they were (a push has
lowered SP; a call has not changed PC). The first byte of a word whose second byte's store faults has been written. (The
stores of `LDH (a8),A` and `LD (C),A` go to 0xFF00-0xFFFF, where no access faults.) -/
def Obligations.FirstStoreFaultIsPrecise : Prop :=
  ∀ (s : State) (e : Trap),
    let hl := (s.regs.h ++ s.regs.l : Word)
    let low := { s with regs := { s.regs with sp := s.regs.sp - 2 } }
    (∀ src, busWrite s hl (s.regs.get8 src) = .error e → StopsIn (exec (Instr.ldAtHLReg src) s) s e) ∧
    (∀ v, busWrite s hl v = .error e → StopsIn (exec (.ld_atHL_d8 v) s) s e) ∧
    (busWrite s hl s.regs.a = .error e → StopsIn (exec .ld_atHLI_A s) s e ∧ StopsIn (exec .ld_atHLD_A s) s e) ∧
    (busWrite s (s.regs.b ++ s.regs.c) s.regs.a = .error e → StopsIn (exec .ld_atBC_A s) s e) ∧
    (busWrite s (s.regs.d ++ s.regs.e) s.regs.a = .error e → StopsIn (exec .ld_atDE_A s) s e) ∧
    (∀ a, busWrite s a s.regs.a = .error e → StopsIn (exec (.ld_atA16_A a) s) s e) ∧
    (∀ v, busRead s hl = .ok v →
      (busWrite s hl (v + 1) = .error e → StopsIn (exec (Instr.inc .atHL) s) s e) ∧
      (busWrite s hl (v - 1) = .error e → StopsIn (exec (Instr.dec .atHL) s) s e) ∧
      (∀ op, busWrite s hl (rotResult op v s.regs.flagC).value = .error e → StopsIn (exec (Instr.rot op .atHL) s) s e) ∧
      (∀ (b : Fin 8) (r : Byte), (∀ j, j < 8 → r.getLsbD j = if j = b.val then false else v.getLsbD j) →
        busWrite s hl r = .error e → StopsIn (exec (Instr.res b .atHL) s) s e) ∧
      (∀ (b : Fin 8) (r : Byte), (∀ j, j < 8 → r.getLsbD j = if j = b.val then true else v.getLsbD j) →
        busWrite s hl r = .error e → StopsIn (exec (Instr.set b .atHL) s) s e)) ∧
    (∀ q, let w := s.regs.stackPair q
      (busWrite low (s.regs.sp - 2) (w.setWidth 8) = .error e → StopsIn (exec (Instr.push q) s) low e) ∧
      (∀ t1, busWrite low (s.regs.sp - 2) (w.setWidth 8) = .ok t1 →
        busWrite t1 (s.regs.sp - 1) ((w >>> 8).setWidth 8) = .error e → StopsIn (exec (Instr.push q) s) t1 e)) ∧
    (∀ t1, (busWrite low (s.regs.sp - 2) (s.regs.pc.setWidth 8) = .error e ∧ t1 = low) ∨
        (busWrite low (s.regs.sp - 2) (s.regs.pc.setWidth 8) = .ok t1 ∧
          busWrite t1 (s.regs.sp - 1) ((s.regs.pc >>> 8).setWidth 8) = .error e) →
      (∀ a, StopsIn (exec (.call_a16 a) s) t1 e) ∧ (∀ t, StopsIn (exec (Instr.rst t) s) t1 e) ∧
      (∀ a cc, s.regs.holds cc = true → StopsIn (exec (Instr.callCond a cc) s) t1 e)) ∧
    (∀ a, (busWrite s a (s.regs.sp.setWidth 8) = .error e → StopsIn (exec (.ld_atA16_SP a) s) s e) ∧
      (∀ t1, busWrite s a (s.regs.sp.setWidth 8) = .ok t1 →
        busWrite t1 (a + 1) ((s.regs.sp >>> 8).setWidth 8) = .error e → StopsIn (exec (.ld_atA16_SP a) s) t1 e))

/-! ## Reset and load -/

/-- R900: every value of the reset table, for any accepted file and any boot ROM image (each value is the spec's own
decision D<n> that R900 names; the pending actions and the driver are the model's own fields, log 2). -/
def Obligations.ResetValues : Prop :=
  ∀ (h : Header) (rom boot : Memory),
    let s := State.resetWith h rom boot
    s.regs = { a := 0, f := 0, b := 0, c := 0, d := 0, e := 0, h := 0, l := 0, sp := 0x0000, pc := 0x0000 } ∧
    s.ime = false ∧ s.history = [] ∧ s.status = .running ∧
    (∀ k, s.wram.read k = 0 ∧ s.hram.read k = 0 ∧ s.vram.read k = 0 ∧ s.cart.eram.read k = 0) ∧
    s.cart.rom = rom ∧ s.cart.header = h ∧ s.bootRom = boot ∧ s.bootMode = true ∧
    (h.variant = .noMbc → s.cart.mapper = .noMbc) ∧
    (h.variant = .mbc1 → s.cart.mapper = .mbc1 ⟨1, 0, false, false⟩) ∧
    (h.variant = .mbc3 → s.cart.mapper = .mbc3 ⟨1, 0, false, ⟨0, 0, 0, 0, 0⟩, ⟨0, 0, 0, 0, 0⟩⟩) ∧
    s.ie = 0 ∧ s.iflag = 0 ∧ s.timer = ⟨0, 0, 0, 0, false, 0⟩ ∧
    s.ppu = ⟨0, 0, 0, 0, 0, 0, 0, 0, 0, 0, 0, 0, 0, []⟩ ∧ busRead s 0xFF41 = .ok 0x06 ∧
    s.joypad = ⟨0xF, 0xF, 0b11⟩ ∧ busRead s 0xFF00 = .ok 0xFF

/-- The reset state keeps the invariant of `StepKeepsInvariant`. -/
def Obligations.ResetSatisfiesInvariant : Prop := State.reset.Inv

/-- Every machine that the loader makes keeps the invariant, whatever the file (R230 to R234, R900). -/
def Obligations.LoadedMachineSatisfiesInvariant : Prop :=
  ∀ (file boot : List Byte) (s : State), boot.length ≤ 256 → State.load file boot = .ok s → s.Inv

/-- R231 to R233: which files load, with what mapper, bank counts and battery flag. Which error is reported where several
apply (ROM size code, then length, then type, then RAM size code) is the model's inference, log 9. And what a loaded
machine is: the reset state (R900) of the file's header (R230) and bytes and of the boot ROM image (R902). -/
def Obligations.LoaderChecksHeader : Prop :=
  ∀ (file boot : List Byte),
    (0x150 ≤ file.length →
    (8 < (file.getD 0x148 0).toNat → State.load file boot = .error .badValue) ∧
    ((file.getD 0x148 0).toNat ≤ 8 → file.length ≠ 0x8000 * 2 ^ (file.getD 0x148 0).toNat →
      State.load file boot = .error .badRomSize) ∧
    ((file.getD 0x148 0).toNat ≤ 8 → file.length = 0x8000 * 2 ^ (file.getD 0x148 0).toNat →
      ((file.getD 0x147 0) ∈ ([0x05, 0x06, 0x0B, 0x0C, 0x0D, 0x19, 0x1A, 0x1B, 0x1C, 0x1D, 0x1E, 0x20, 0x22, 0xFC, 0xFD,
          0xFE, 0xFF] : List Byte) → State.load file boot = .error .unsupported) ∧
      (∀ (v : Variant) (battery : Bool) (banks : Nat),
        ((file.getD 0x147 0), v, battery) ∈ ([(0x00, .noMbc, false), (0x08, .noMbc, false), (0x09, .noMbc, true),
          (0x01, .mbc1, false), (0x02, .mbc1, false), (0x03, .mbc1, true), (0x0F, .mbc3, true), (0x10, .mbc3, true),
          (0x11, .mbc3, false), (0x12, .mbc3, false), (0x13, .mbc3, true)] : List (Byte × Variant × Bool)) →
        ((file.getD 0x149 0), banks) ∈ ([(0, 0), (1, 1), (2, 1), (3, 4), (4, 16), (5, 8)] : List (Byte × Nat)) →
        ∃ s, State.load file boot = .ok s ∧ s.cart.header.variant = v ∧ s.cart.header.battery = battery ∧
          s.cart.romLen = file.length ∧ s.cart.eramLen = 0x2000 * banks ∧
          ∀ k (hk : k < file.length), s.cart.rom.read k = file[k]) ∧
      ((file.getD 0x147 0) ∈ ([0x00, 0x08, 0x09, 0x01, 0x02, 0x03, 0x0F, 0x10, 0x11, 0x12, 0x13] : List Byte) →
        5 < (file.getD 0x149 0).toNat → State.load file boot = .error .badValue) ∧
      ((file.getD 0x147 0) ∉ ([0x05, 0x06, 0x0B, 0x0C, 0x0D, 0x19, 0x1A, 0x1B, 0x1C, 0x1D, 0x1E, 0x20, 0x22, 0xFC, 0xFD,
          0xFE, 0xFF, 0x00, 0x08, 0x09, 0x01, 0x02, 0x03, 0x0F, 0x10, 0x11, 0x12, 0x13] : List Byte) →
        State.load file boot = .error .badValue))) ∧
    (∀ s, State.load file boot = .ok s →
      s = State.resetWith s.cart.header s.cart.rom s.bootRom ∧
      (∀ k (hk : k < file.length), s.cart.rom.read k = file[k]) ∧
      (∀ k (hk : k < boot.length), s.bootRom.read k = boot[k]) ∧
      s.cart.header.title = (file.drop 0x134).take 16 ∧ s.cart.header.headerChecksum = file.getD 0x14D 0 ∧
      s.cart.header.globalChecksum = file.getD 0x14E 0 ++ file.getD 0x14F 0)

/-! ## Invariants and whole-machine rules -/

/-- Every step, by any action of the driver, keeps the invariant: F[3:0] zero (R101), at most five PCs in the ring (R106),
every memory canonical and inside its array (R110 to R115), bank registers never 0 (R118, R119), the mapper of the
header's variant (R117), STAT_w's low bits zero (R839), line and dot in range (R123), the framebuffer inside the screen
(R124). -/
def Obligations.StepKeepsInvariant : Prop := ∀ s t : State, s.Inv → step s = .next t → t.Inv

/-- What no step changes: the ROM (R113), the header (R116), the boot ROM (R115), the mapper's variant (R117); and boot
mode, once cleared, stays cleared (R115, R211). -/
def Obligations.ImmutableStateAndStickyBootLatch : Prop :=
  ∀ s t : State, step s = .next t →
    t.cart.rom = s.cart.rom ∧ t.cart.header = s.cart.header ∧ t.bootRom = s.bootRom ∧
    t.cart.mapper.variant = s.cart.mapper.variant ∧ (s.bootMode = false → t.bootMode = false)

/-- R237: the timer, the PPU and the host's buttons change nothing of the CPU, of the memories and of the cartridge: only
IF (by `raise`, which clears no bit) and their own state. -/
def Obligations.DeviceActionsLeaveCpuAlone : Prop :=
  ∀ (s t : State) (a : Action), a ≠ .cpu → perform a s = .next t →
    t.regs = s.regs ∧ t.ime = s.ime ∧ t.history = s.history ∧ t.status = s.status ∧ t.wram = s.wram ∧
    t.hram = s.hram ∧ t.vram = s.vram ∧ t.bootMode = s.bootMode ∧ t.cart = s.cart ∧ t.ie = s.ie ∧
    (∃ m : Byte, t.iflag = s.iflag ||| m ∧ m &&& 0xF8 = 0) ∧
    (∀ n, a = .timer n → t.ppu = s.ppu ∧ t.joypad = s.joypad) ∧
    (a = .ppu → t.timer = s.timer ∧ t.joypad = s.joypad) ∧
    (∀ e, a = .input e → t.timer = s.timer ∧ t.ppu = s.ppu ∧ t.iflag = s.iflag)

/-- R103, R105 and the flag lines of the instruction rules, read over the whole instruction set: IME, SP, PC (beyond the
instruction's own bytes) and F change only in the instructions whose rules say so; no instruction changes the history
ring or the PPU's position. -/
def Obligations.ControlRegistersChangeOnlyWhereNamed : Prop :=
  ∀ (s t : State) (i : Instr), exec i s = .next t →
    ((writesOf i).ime = false → t.ime = s.ime) ∧ ((writesOf i).sp = false → t.regs.sp = s.regs.sp) ∧
    ((writesOf i).pc = false → t.regs.pc = s.regs.pc) ∧ ((writesOf i).f = false → t.regs.f = s.regs.f) ∧
    t.history = s.history ∧ t.ppu.line = s.ppu.line ∧ t.ppu.dot = s.ppu.dot ∧ t.ppu.fb = s.ppu.fb ∧
    t.timer.master = s.timer.master ∧ t.joypad.buttons = s.joypad.buttons ∧ t.joypad.dpad = s.joypad.dpad

/-- THE MEMORY FRAME: whatever an instruction answers, an address it does not store to reads as before. A form that
stores nothing has no such address (`storeAddresses` is `[]`), so every address reads as before; the addresses stored to
are of RAM here, and `RegisterStoreFrame` and the mapper statements cover the others. -/
def Obligations.MemoryFrame : Prop :=
  ∀ (s t : State) (i : Instr), s.Inv → exec i s = .next t → (∀ a ∈ storeAddresses i s, RamAddress a) →
    ∀ a, a ∉ storeAddresses i s → busRead t a = busRead s a

/-! ## The bus -/

/-- A byte stored at an address of VRAM, WRAM or HRAM is accepted, reads back, changes no other address and no other state;
each window is its own array, from offset 0 (R110, R111, R112, R201, R202, R842). -/
def Obligations.RamStoreReadsBack : Prop :=
  ∀ (s : State) (a : Word) (v : Byte), s.Inv → RamAddress a →
    ∃ t, busWrite s a v = .ok t ∧ busRead t a = .ok v ∧ (∀ b, b ≠ a → busRead t b = busRead s b) ∧
      t = { s with wram := t.wram, hram := t.hram, vram := t.vram } ∧
      (a.toNat < 0xA000 → busRead s a = .ok (s.vram.read (a.toNat - 0x8000)) ∧
        t = { s with vram := s.vram.write (a.toNat - 0x8000) v } ∧ t.vram.read (a.toNat - 0x8000) = v) ∧
      (0xC000 ≤ a.toNat → a.toNat < 0xE000 → busRead s a = .ok (s.wram.read (a.toNat - 0xC000)) ∧
        t = { s with wram := s.wram.write (a.toNat - 0xC000) v } ∧ t.wram.read (a.toNat - 0xC000) = v) ∧
      (0xFF80 ≤ a.toNat → busRead s a = .ok (s.hram.read (a.toNat - 0xFF80)) ∧
        t = { s with hram := s.hram.write (a.toNat - 0xFF80) v } ∧ t.hram.read (a.toNat - 0xFF80) = v)

/-- R204, R205: a word stored in RAM reads back, low byte at `a`, high byte at `a + 1`. -/
def Obligations.WordStoreIsLittleEndian : Prop :=
  ∀ (s : State) (a v : Word), s.Inv → RamAddress a → RamAddress (a + 1) →
    ∃ t, (∀ k, writeWord s a v k = k t) ∧ busRead t a = .ok (v.setWidth 8) ∧
      busRead t (a + 1) = .ok ((v >>> 8).setWidth 8) ∧ ∀ k, readWord t a k = k v

/-- R203: an unlisted, serial or audio address reads 0x00 and drops writes. -/
def Obligations.UnlistedAddresses : Prop :=
  ∀ (s : State) (a : Word) (v : Byte),
    ((0xE000 ≤ a.toNat ∧ a.toNat ≤ 0xFEFF) ∨ (0xFF01 ≤ a.toNat ∧ a.toNat ≤ 0xFF03) ∨
      (0xFF08 ≤ a.toNat ∧ a.toNat ≤ 0xFF0E) ∨ (0xFF10 ≤ a.toNat ∧ a.toNat ≤ 0xFF3F) ∨
      (0xFF4C ≤ a.toNat ∧ a.toNat ≤ 0xFF4F) ∨ (0xFF51 ≤ a.toNat ∧ a.toNat ≤ 0xFF7F)) →
    busRead s a = .ok 0x00 ∧ busWrite s a v = .ok s

/-- R210, R211: the boot-ROM overlay and the register at 0xFF50; and R201, R202: the cartridge windows are the mapper's, in
either boot mode from 0x0100 up. -/
def Obligations.BootRomOverlay : Prop :=
  ∀ (s : State) (a : Word) (v : Byte),
    (s.bootMode = true → a.toNat < 0x100 → busRead s a = .ok (s.bootRom.read a.toNat) ∧
      busWrite s a v = .error ⟨.bootRomWrite, a⟩) ∧
    (s.bootMode = false → a.toNat < 0x100 → busRead s a = mapperRead s.cart a ∧
      busWrite s a v = (mapperWrite s.cart a v).map fun c => { s with cart := c }) ∧
    ((0x0100 ≤ a.toNat ∧ a.toNat < 0x8000) ∨ (0xA000 ≤ a.toNat ∧ a.toNat < 0xC000) →
      busRead s a = mapperRead s.cart a ∧
      busWrite s a v = (mapperWrite s.cart a v).map fun c => { s with cart := c }) ∧
    (busWrite s 0xFF50 v = .ok (if v = 0x01 then { s with bootMode := false } else s)) ∧
    (busRead s 0xFF50 = .ok (if s.bootMode then 0x00 else 0x01))

/-- `x` is `m.read off` if the offset lies in an array of `len` bytes, else the out-of-bounds fault of R222. -/
def ChecksBounds (x : Except Trap Byte) (m : Memory) (off len : Nat) (a : Word) : Prop :=
  (off < len → x = .ok (m.read off)) ∧ (len ≤ off → x = .error ⟨.outOfBounds, a⟩)

/-- The same for a store into ERAM (R222): nothing but that byte changes. -/
def StoresEram (x : Except Trap Cartridge) (c : Cartridge) (off : Nat) (v : Byte) (a : Word) : Prop :=
  (off < c.eramLen → x = .ok { c with eram := c.eram.write off v }) ∧
  (c.eramLen ≤ off → x = .error ⟨.outOfBounds, a⟩)

/-- R213, R214, R222: NoMbc. -/
def Obligations.NoMbcReadsAndWrites : Prop :=
  ∀ (c : Cartridge) (a : Word) (v : Byte), c.mapper = .noMbc →
    (a.toNat < 0x8000 → ChecksBounds (mapperRead c a) c.rom a.toNat c.romLen a ∧ mapperWrite c a v = .ok c) ∧
    (0xA000 ≤ a.toNat → a.toNat < 0xC000 →
      ChecksBounds (mapperRead c a) c.eram (a.toNat - 0xA000) c.eramLen a ∧
      StoresEram (mapperWrite c a v) c (a.toNat - 0xA000) v a)

/-- R215 to R218, R222: Mbc1. -/
def Obligations.Mbc1ReadsAndWrites : Prop :=
  ∀ (c : Cartridge) (r : Mbc1) (a : Word) (v : Byte), c.mapper = .mbc1 r →
    let off := (a.toNat - 0xA000) + if r.advanced then 0x2000 * r.secondaryBank.toNat else 0
    (a.toNat < 0x4000 → ChecksBounds (mapperRead c a) c.rom
      (a.toNat + if r.advanced then 0x4000 * (32 * r.secondaryBank.toNat) else 0) c.romLen a) ∧
    (0x4000 ≤ a.toNat → a.toNat < 0x8000 → ChecksBounds (mapperRead c a) c.rom
      ((a.toNat - 0x4000) + 0x4000 * (32 * r.secondaryBank.toNat + r.romBank.toNat)) c.romLen a) ∧
    (0xA000 ≤ a.toNat → a.toNat < 0xC000 → r.ramEnable = true →
      ChecksBounds (mapperRead c a) c.eram off c.eramLen a ∧ StoresEram (mapperWrite c a v) c off v a) ∧
    (0xA000 ≤ a.toNat → a.toNat < 0xC000 → r.ramEnable = false →
      mapperRead c a = .ok 0xFF ∧ mapperWrite c a v = .ok c) ∧
    (a.toNat < 0x2000 →
      mapperWrite c a v = .ok { c with mapper := .mbc1 { r with ramEnable := decide (v.toNat % 16 = 0xA) } }) ∧
    (0x2000 ≤ a.toNat → a.toNat < 0x4000 → mapperWrite c a v =
      .ok { c with mapper := .mbc1 { r with romBank := BitVec.ofNat 5 (if v.toNat % 32 = 0 then 1 else v.toNat % 32) } }) ∧
    (0x4000 ≤ a.toNat → a.toNat < 0x6000 → mapperWrite c a v =
      .ok { c with mapper := .mbc1 { r with secondaryBank := BitVec.ofNat 2 (v.toNat % 4) } }) ∧
    (0x6000 ≤ a.toNat → a.toNat < 0x8000 → mapperWrite c a v =
      .ok { c with mapper := .mbc1 { r with advanced := decide (v.toNat % 2 = 1) } })

/-- The selectors of the RTC bytes (R219): 0x08 S, 0x09 M, 0x0A H, 0x0B DL, 0x0C DH. -/
def rtcByte (t : Rtc) (select : Nat) : Option Byte :=
  [(0x08, t.s), (0x09, t.m), (0x0A, t.h), (0x0B, t.dl), (0x0C, t.dh)].lookup select

/-- R219 to R222: Mbc3. -/
def Obligations.Mbc3ReadsAndWrites : Prop :=
  ∀ (c : Cartridge) (r : Mbc3) (a : Word) (v : Byte), c.mapper = .mbc3 r →
    let off := 0x2000 * r.select.toNat + (a.toNat - 0xA000)
    (a.toNat < 0x4000 → ChecksBounds (mapperRead c a) c.rom a.toNat c.romLen a) ∧
    (0x4000 ≤ a.toNat → a.toNat < 0x8000 → ChecksBounds (mapperRead c a) c.rom
      ((a.toNat - 0x4000) + 0x4000 * r.romBank.toNat) c.romLen a) ∧
    (0xA000 ≤ a.toNat → a.toNat < 0xC000 → r.ramEnable = false →
      mapperRead c a = .ok 0xFF ∧ mapperWrite c a v = .ok c) ∧
    (0xA000 ≤ a.toNat → a.toNat < 0xC000 → r.ramEnable = true →
      (r.select.toNat ≤ 0x03 →
        ChecksBounds (mapperRead c a) c.eram off c.eramLen a ∧ StoresEram (mapperWrite c a v) c off v a) ∧
      (∀ x, rtcByte r.latched r.select.toNat = some x → mapperRead c a = .ok x) ∧
      (0x08 ≤ r.select.toNat → r.select.toNat ≤ 0x0C → ∃ rtc, mapperWrite c a v =
        .ok { c with mapper := .mbc3 { r with rtc := rtc } } ∧ rtcByte rtc r.select.toNat = some v ∧
        ∀ k, k ≠ r.select.toNat → rtcByte rtc k = rtcByte r.rtc k) ∧
      (0x03 < r.select.toNat → rtcByte r.latched r.select.toNat = none →
        mapperRead c a = .error ⟨.outOfBounds, a⟩ ∧ mapperWrite c a v = .error ⟨.outOfBounds, a⟩)) ∧
    (a.toNat < 0x2000 →
      mapperWrite c a v = .ok { c with mapper := .mbc3 { r with ramEnable := decide (v.toNat % 16 = 0xA) } }) ∧
    (0x2000 ≤ a.toNat → a.toNat < 0x4000 → mapperWrite c a v =
      .ok { c with mapper := .mbc3 { r with romBank := BitVec.ofNat 7 (if v.toNat % 128 = 0 then 1 else v.toNat % 128) } }) ∧
    (0x4000 ≤ a.toNat → a.toNat < 0x6000 →
      mapperWrite c a v = .ok { c with mapper := .mbc3 { r with select := v } }) ∧
    (0x6000 ≤ a.toNat → a.toNat < 0x8000 →
      mapperWrite c a v = .ok { c with mapper := .mbc3 { r with latched := r.rtc } })

/-- R804, R821 to R823: the interrupt and timer registers as read and written. -/
def Obligations.InterruptAndTimerRegisters : Prop :=
  ∀ (s : State) (v : Byte),
    busRead s 0xFF0F = .ok s.iflag ∧ busWrite s 0xFF0F v = .ok { s with iflag := v } ∧
    busRead s 0xFFFF = .ok s.ie ∧ busWrite s 0xFFFF v = .ok { s with ie := v } ∧
    busRead s 0xFF04 = .ok s.timer.div ∧ busWrite s 0xFF04 v = .ok { s with timer := { s.timer with div := 0 } } ∧
    busRead s 0xFF05 = .ok s.timer.tima ∧ busWrite s 0xFF05 v = .ok { s with timer := { s.timer with tima := v } } ∧
    busRead s 0xFF06 = .ok s.timer.tma ∧ busWrite s 0xFF06 v = .ok { s with timer := { s.timer with tma := v } } ∧
    busRead s 0xFF07 = .ok (BitVec.ofNat 8 ((if s.timer.enable then 4 else 0) + s.timer.select.toNat)) ∧
    busWrite s 0xFF07 v =
      .ok { s with timer := { s.timer with enable := v.getLsbD 2, select := BitVec.ofNat 2 (v.toNat % 4) } }

/-- R835, R838 to R841 with R831 and R837: the PPU registers as read and written. -/
def Obligations.PpuRegisters : Prop :=
  ∀ (s : State) (v : Byte),
    let p := s.ppu
    busRead s 0xFF40 = .ok p.lcdc ∧ busWrite s 0xFF40 v = .ok { s with ppu := { p with lcdc := v } } ∧
    busRead s 0xFF41 = .ok ((p.statW &&& 0xF8) ||| (if p.line = p.lyc.toNat then 4 else 0) |||
      (if 144 ≤ p.line then 1 else if p.dot < 80 then 2 else if p.dot < 252 then 3 else 0)) ∧
    busWrite s 0xFF41 v = .ok { s with ppu := { p with statW := v &&& 0xF8 } } ∧
    busRead s 0xFF42 = .ok p.scy ∧ busWrite s 0xFF42 v = .ok { s with ppu := { p with scy := v } } ∧
    busRead s 0xFF43 = .ok p.scx ∧ busWrite s 0xFF43 v = .ok { s with ppu := { p with scx := v } } ∧
    busRead s 0xFF44 = .ok (BitVec.ofNat 8 p.line) ∧ busWrite s 0xFF44 v = .ok s ∧
    busRead s 0xFF45 = .ok p.lyc ∧ busWrite s 0xFF45 v = .ok { s with ppu := { p with lyc := v } } ∧
    busRead s 0xFF46 = .ok p.dma ∧ busWrite s 0xFF46 v = .ok { s with ppu := { p with dma := v } } ∧
    busRead s 0xFF47 = .ok p.bgp ∧ busWrite s 0xFF47 v = .ok { s with ppu := { p with bgp := v } } ∧
    busRead s 0xFF48 = .ok p.obp0 ∧ busWrite s 0xFF48 v = .ok { s with ppu := { p with obp0 := v } } ∧
    busRead s 0xFF49 = .ok p.obp1 ∧ busWrite s 0xFF49 v = .ok { s with ppu := { p with obp1 := v } } ∧
    busRead s 0xFF4A = .ok p.wy ∧ busWrite s 0xFF4A v = .ok { s with ppu := { p with wy := v } } ∧
    busRead s 0xFF4B = .ok p.wx ∧ busWrite s 0xFF4B v = .ok { s with ppu := { p with wx := v } }

/-- R850, R851: JOYP, bit by bit: bits 7-6 read 1, bits 5-4 the last select bits written, bits 3-0 the AND of the selected
latches. -/
def Obligations.JoypadRegister : Prop :=
  ∀ (s : State) (v : Byte),
    busWrite s 0xFF00 v = .ok { s with joypad := { s.joypad with sel := v.extractLsb' 4 2 } } ∧
    ∃ n, busRead s 0xFF00 = .ok n ∧ n.getLsbD 7 = true ∧ n.getLsbD 6 = true ∧
      n.getLsbD 5 = s.joypad.sel.getLsbD 1 ∧ n.getLsbD 4 = s.joypad.sel.getLsbD 0 ∧
      ∀ k, k < 4 → n.getLsbD k = ((s.joypad.sel.getLsbD 0 || s.joypad.dpad.getLsbD k) &&
        (s.joypad.sel.getLsbD 1 || s.joypad.buttons.getLsbD k))

/-- R852: a press clears and a release sets exactly the button's bit: d-pad Right 0, Left 1, Up 2, Down 3; buttons A 0, B 1,
Start 2, Select 3. -/
def Obligations.JoypadEvents : Prop :=
  ∀ (j : Joypad) (btn : Button) (dpad : Bool) (k : Nat),
    (btn, dpad, k) ∈ ([(.right, true, 0), (.left, true, 1), (.up, true, 2), (.down, true, 3), (.a, false, 0),
      (.b, false, 1), (.start, false, 2), (.select, false, 3)] : List (Button × Bool × Nat)) →
    (j.press btn).sel = j.sel ∧ (j.release btn).sel = j.sel ∧
    ∀ i, i < 4 →
      (j.press btn).dpad.getLsbD i = (j.dpad.getLsbD i && !(dpad && decide (i = k))) ∧
      (j.press btn).buttons.getLsbD i = (j.buttons.getLsbD i && !(!dpad && decide (i = k))) ∧
      (j.release btn).dpad.getLsbD i = (j.dpad.getLsbD i || (dpad && decide (i = k))) ∧
      (j.release btn).buttons.getLsbD i = (j.buttons.getLsbD i || (!dpad && decide (i = k)))

/-- What a store to an address that is not RAM leaves alone (R202, R208): a store to 0xFF00-0xFFFF changes what no other
address reads, except STAT's coincidence bit after a store to LYC and 0x0000-0x00FF after a store to 0xFF50; a store to
0x0000-0x7FFF changes what only the mapper's windows read; a store to 0xA000-0xBFFF changes what only that window reads. -/
def Obligations.RegisterStoreFrame : Prop :=
  ∀ (s t : State) (a b : Word) (v : Byte), busWrite s a v = .ok t → b ≠ a →
    (0xFF00 ≤ a.toNat → ¬ RamAddress a → ¬ (a = 0xFF45 ∧ b = 0xFF41) → ¬ (a = 0xFF50 ∧ b.toNat < 0x100) →
      busRead t b = busRead s b) ∧
    (a.toNat < 0x8000 → 0x8000 ≤ b.toNat → (b.toNat < 0xA000 ∨ 0xC000 ≤ b.toNat) → busRead t b = busRead s b) ∧
    (0xA000 ≤ a.toNat → a.toNat < 0xC000 → (b.toNat < 0xA000 ∨ 0xC000 ≤ b.toNat) → busRead t b = busRead s b)

/-! ## The timer -/

/-- R820, R824: one timer cycle, and `timer_step(n)` as n cycles. -/
def Obligations.TimerCycle : Prop :=
  ∀ s : State,
    let m := s.timer.master + 1
    let d := if s.timer.select = 0 then 1024 else if s.timer.select = 1 then 16 else if s.timer.select = 2 then 64 else 256
    let ticks := s.timer.enable = true ∧ m.toNat % d = 0
    (∃ t, timerStep 1 s = t ∧ t.timer.master = m ∧
      (m.toNat % 256 = 0 → t.timer.div = s.timer.div + 1) ∧ (m.toNat % 256 ≠ 0 → t.timer.div = s.timer.div) ∧
      (¬ ticks → t.timer.tima = s.timer.tima ∧ t.iflag = s.iflag) ∧
      (ticks → s.timer.tima ≠ 0xFF → t.timer.tima = s.timer.tima + 1 ∧ t.iflag = s.iflag) ∧
      (ticks → s.timer.tima = 0xFF → t.timer.tima = s.timer.tma ∧ t.iflag = s.iflag ||| 0x04) ∧
      t = { s with iflag := t.iflag, timer :=
        { s.timer with master := t.timer.master, div := t.timer.div, tima := t.timer.tima } }) ∧
    timerStep 0 s = s ∧ ∀ n, timerStep (n + 1) s = timerStep n (timerStep 1 s)

/-- R820: after n cycles the master clock has advanced by n (mod 2^32) and DIV by the number of multiples of 256 passed,
also across the wrap of the master clock. -/
def Obligations.DivCountsMasterClock : Prop :=
  ∀ (n : Nat) (s : State),
    (timerStep n s).timer.master = s.timer.master + BitVec.ofNat 32 n ∧
    (timerStep n s).timer.div =
      s.timer.div + BitVec.ofNat 8 ((s.timer.master.toNat + n) / 256 - s.timer.master.toNat / 256)

/-! ## The PPU -/

/-- R830, R831, R836: the position, the mode and the interrupts of one PPU step; no other state but the framebuffer
changes. -/
def Obligations.PpuStepPositionAndInterrupts : Prop :=
  ∀ s : State,
    let p := s.ppu
    let mode := fun (line dot : Nat) => if 144 ≤ line then 1 else if dot < 80 then 2 else if dot < 252 then 3 else 0
    let dot := if p.dot + 1 = 456 then 0 else p.dot + 1
    let line := if p.dot + 1 = 456 then (if p.line + 1 = 154 then 0 else p.line + 1) else p.line
    let vblank := p.dot + 1 = 456 ∧ line = 144
    let lyc := p.dot + 1 = 456 ∧ line = p.lyc.toNat ∧ p.statW.getLsbD 6 = true
    let entered := mode line dot ≠ mode p.line p.dot ∧ mode line dot ≠ 3 ∧ p.statW.getLsbD (3 + mode line dot) = true
    ∃ t, ppuStep s = t ∧ t.ppu.line = line ∧ t.ppu.dot = dot ∧ t.ppu.mode.toNat = mode line dot ∧
      (∀ k, t.iflag.getLsbD k = true ↔
        (s.iflag.getLsbD k = true ∨ (k = 0 ∧ vblank) ∨ (k = 1 ∧ (lyc ∨ entered)))) ∧
      t = { s with iflag := t.iflag, ppu := { p with line := t.ppu.line, dot := t.ppu.dot, fb := t.ppu.fb } }

/-- R830, R832, R833, R835: the pixel of a step: emitted on lines 0-143 at dots 80-239, at `x = dot - 80`, with the slot
computed from the registers and VRAM of this step and a colour of the palette, its components in [0, 1]; no other cell
changes. -/
def Obligations.PpuStepEmitsBackgroundPixel : Prop :=
  ∀ s : State, s.Inv →
    let p := s.ppu
    let x := p.dot - 80
    let sx := (x + p.scx.toNat) % 256
    let sy := (p.line + p.scy.toNat) % 256
    let mapBase := if p.lcdc.getLsbD 3 then 0x1C00 else 0x1800
    let id := s.vram.read (mapBase + sy / 8 * 32 + sx / 8)
    let tile := if p.lcdc.getLsbD 4 then 16 * id.toNat else if id.toNat < 128 then 0x1000 + 16 * id.toNat else 16 * id.toNat
    let lo := s.vram.read (tile + 2 * (sy % 8))
    let hi := s.vram.read (tile + 2 * (sy % 8) + 1)
    let b := 7 - sx % 8
    let colour := (if lo.getLsbD b then 1 else 0) + (if hi.getLsbD b then 2 else 0)
    let slot := BitVec.ofNat 2 (p.bgp.toNat / 4 ^ colour)
    (p.line < 144 ∧ 80 ≤ p.dot ∧ p.dot < 240 →
      (ppuStep s).ppu.fb.read (160 * p.line + x) = some slot ∧
      displayed (ppuStep s) x p.line = some (Config.hostPalette slot) ∧
      (∀ part ∈ [(Config.hostPalette slot).red, (Config.hostPalette slot).green, (Config.hostPalette slot).blue],
        0 ≤ part.value ∧ part.value ≤ 1) ∧
      ∀ k, k ≠ 160 * p.line + x → (ppuStep s).ppu.fb.read k = p.fb.read k) ∧
    (¬ (p.line < 144 ∧ 80 ≤ p.dot ∧ p.dot < 240) → (ppuStep s).ppu.fb = p.fb)

/-- `n` PPU steps. -/
def ppuSteps : Nat → State → State
  | 0, s => s
  | n + 1, s => ppuSteps n (ppuStep s)

/-- R830: a frame is exactly 154 x 456 = 70,224 steps, from any position. -/
def Obligations.FrameIs70224Steps : Prop :=
  ∀ (s : State) (n : Nat), s.Inv → 0 < n →
    ((ppuSteps n s).ppu.line = s.ppu.line ∧ (ppuSteps n s).ppu.dot = s.ppu.dot ↔ n % 70224 = 0)

/-- R830: each visible line, from its dot 0, writes exactly its 160 cells. -/
def Obligations.VisibleLineWritesItsCells : Prop :=
  ∀ s : State, s.Inv → s.ppu.line < 144 → s.ppu.dot = 0 →
    (∀ x, x < 160 → ((ppuSteps 456 s).ppu.fb.read (160 * s.ppu.line + x)).isSome = true) ∧
    ∀ k, k / 160 ≠ s.ppu.line → (ppuSteps 456 s).ppu.fb.read k = s.ppu.fb.read k

/-! ## The driver -/

/-- The latches after input events, oldest first (R852, R904). -/
inductive AfterInputs : Joypad → List InputEvent → Joypad → Prop where
  | none (j : Joypad) : AfterInputs j [] j
  | press {j k : Joypad} {btn : Button} {es : List InputEvent} :
    AfterInputs (j.press btn) es k → AfterInputs j (.press btn :: es) k
  | release {j k : Joypad} {btn : Button} {es : List InputEvent} :
    AfterInputs (j.release btn) es k → AfterInputs j (.release btn :: es) k

/-- R904: the pending actions run in order, one a step; with none pending a CPU step runs; under the reference schedule a
round first applies its pending input events (R852), and the CPU step is followed by `timer_step(c)` and c times
`ppu_step()`. (That the schedule and the input sequence are held in State is the model's choice, log 2; the cycle count c
is R908's informative table.) -/
def Obligations.DriverRunsPendingActions : Prop :=
  ∀ (s : State) (rest : List Action), s.status = .running →
    (∀ n, s.queue = .timer n :: rest → step s = .next (timerStep n { s with queue := rest })) ∧
    (s.queue = .ppu :: rest → step s = .next (ppuStep { s with queue := rest })) ∧
    (∀ btn, s.queue = .input (.press btn) :: rest →
      step s = .next { s with queue := rest, joypad := s.joypad.press btn }) ∧
    (∀ btn, s.queue = .input (.release btn) :: rest →
      step s = .next { s with queue := rest, joypad := s.joypad.release btn }) ∧
    (s.queue = .cpu :: rest → step s = cpuStep { s with queue := rest }) ∧
    (s.queue = [] → s.driver = .host → step s = cpuStep s) ∧
    (∀ (now : List InputEvent) (inputs later : List (List InputEvent)) (j : Joypad) (t : State),
      s.queue = [] → s.driver = .reference inputs →
      (inputs = now :: later ∨ (inputs = [] ∧ now = [] ∧ later = [])) → AfterInputs s.joypad now j →
      let r := { s with joypad := j, driver := .reference later }
      cpuStep r = .next t →
      (t.status = .running →
        step s = .next { t with queue := .timer (stepCycles r) :: List.replicate (stepCycles r) .ppu }) ∧
      (t.status ≠ .running → step s = .next t)) ∧
    (s.interruptTaken = true → stepCycles s = 20) ∧
    (∀ r8, s.interruptTaken = false → busRead s s.regs.pc = .ok 0x20 → busRead s (s.regs.pc + 1) = .ok r8 →
      stepCycles s = if s.regs.flagZ then 8 else 12)

/-! ## 8-bit loads -/

/-- R400, R401: `LD r,r'` and `LD r,d8`. -/
def Obligations.LoadRegister : Prop :=
  ∀ (s : State) (dst src : Reg8) (v : Byte),
    Gives (exec (Instr.ldRegReg dst src) s) (fun t => WritesReg s t dst (s.regs.get8 src) s.regs.f) ∧
    Gives (exec (Instr.ldRegImm v dst) s) (fun t => WritesReg s t dst v s.regs.f)

/-- R402, R405, R407, R408, R411, R413, R415: the loads from memory. -/
def Obligations.LoadFromMemory : Prop :=
  ∀ (s : State) (v n : Byte) (a : Word),
    (busRead s (s.regs.h ++ s.regs.l) = .ok v →
      (∀ dst, Gives (exec (Instr.ldRegAtHL dst) s) fun t => WritesReg s t dst v s.regs.f) ∧
      exec .ld_A_atHLI s = .next { s with regs := { s.regs with
        a := v
        h := ((s.regs.h ++ s.regs.l + 1 : Word) >>> 8).setWidth 8
        l := (s.regs.h ++ s.regs.l + 1 : Word).setWidth 8 } } ∧
      exec .ld_A_atHLD s = .next { s with regs := { s.regs with
        a := v
        h := ((s.regs.h ++ s.regs.l - 1 : Word) >>> 8).setWidth 8
        l := (s.regs.h ++ s.regs.l - 1 : Word).setWidth 8 } }) ∧
    (busRead s (s.regs.b ++ s.regs.c) = .ok v →
      exec .ld_A_atBC s = .next { s with regs := { s.regs with a := v } }) ∧
    (busRead s (s.regs.d ++ s.regs.e) = .ok v →
      exec .ld_A_atDE s = .next { s with regs := { s.regs with a := v } }) ∧
    (busRead s a = .ok v → exec (.ld_A_atA16 a) s = .next { s with regs := { s.regs with a := v } }) ∧
    (busRead s (0xFF00 + n.setWidth 16) = .ok v →
      exec (.ldh_A_atA8 n) s = .next { s with regs := { s.regs with a := v } }) ∧
    (busRead s (0xFF00 + s.regs.c.setWidth 16) = .ok v →
      exec .ld_A_atC s = .next { s with regs := { s.regs with a := v } })

/-- R403, R404, R406, R409, R410, R412, R414, R416: the byte stores answer the state that the bus makes of the byte (then
HL steps). -/
def Obligations.StoreByte : Prop :=
  ∀ (s t : State) (v n : Byte) (a : Word),
    (∀ src, busWrite s (s.regs.h ++ s.regs.l) (s.regs.get8 src) = .ok t → exec (Instr.ldAtHLReg src) s = .next t) ∧
    (busWrite s (s.regs.h ++ s.regs.l) v = .ok t → exec (.ld_atHL_d8 v) s = .next t) ∧
    (busWrite s (s.regs.b ++ s.regs.c) s.regs.a = .ok t → exec .ld_atBC_A s = .next t) ∧
    (busWrite s (s.regs.d ++ s.regs.e) s.regs.a = .ok t → exec .ld_atDE_A s = .next t) ∧
    (busWrite s a s.regs.a = .ok t → exec (.ld_atA16_A a) s = .next t) ∧
    (busWrite s (0xFF00 + n.setWidth 16) s.regs.a = .ok t → exec (.ldh_atA8_A n) s = .next t) ∧
    (busWrite s (0xFF00 + s.regs.c.setWidth 16) s.regs.a = .ok t → exec .ld_atC_A s = .next t) ∧
    (busWrite s (s.regs.h ++ s.regs.l) s.regs.a = .ok t →
      exec .ld_atHLI_A s = .next { t with regs := { s.regs with
        h := ((s.regs.h ++ s.regs.l + 1 : Word) >>> 8).setWidth 8
        l := (s.regs.h ++ s.regs.l + 1 : Word).setWidth 8 } } ∧
      exec .ld_atHLD_A s = .next { t with regs := { s.regs with
        h := ((s.regs.h ++ s.regs.l - 1 : Word) >>> 8).setWidth 8
        l := (s.regs.h ++ s.regs.l - 1 : Word).setWidth 8 } })

/-! ## 16-bit loads and the stack -/

/-- R451, R452, R453: `LD dd,d16`, `LD (a16),SP`, `LD SP,HL`. -/
def Obligations.LoadAndStoreWords : Prop :=
  ∀ (s t1 t2 : State) (v a : Word),
    exec (.ld_BC_d16 v) s = .next { s with regs := { s.regs with b := (v >>> 8).setWidth 8, c := v.setWidth 8 } } ∧
    exec (.ld_DE_d16 v) s = .next { s with regs := { s.regs with d := (v >>> 8).setWidth 8, e := v.setWidth 8 } } ∧
    exec (.ld_HL_d16 v) s = .next { s with regs := { s.regs with h := (v >>> 8).setWidth 8, l := v.setWidth 8 } } ∧
    exec (.ld_SP_d16 v) s = .next { s with regs := { s.regs with sp := v } } ∧
    exec .ld_SP_HL s = .next { s with regs := { s.regs with sp := s.regs.h ++ s.regs.l } } ∧
    (busWrite s a (s.regs.sp.setWidth 8) = .ok t1 → busWrite t1 (a + 1) ((s.regs.sp >>> 8).setWidth 8) = .ok t2 →
      exec (.ld_atA16_SP a) s = .next t2)

/-- R454, R550, R554: `LD HL,SP+r8` and `ADD SP,r8`: the sum takes the sign-extended offset; H and C come from the unsigned
addition of SP's low byte and the raw offset byte; Z and N are 0. -/
def Obligations.StackPointerPlusOffset : Prop :=
  ∀ (s : State) (e : Byte),
    let v := BitVec.ofInt 16 (s.regs.sp.toNat + e.toInt)
    let f := packFlags false false (decide (s.regs.sp.toNat % 16 + e.toNat % 16 > 0xF))
      (decide (s.regs.sp.toNat % 256 + e.toNat > 0xFF))
    exec (.ld_HL_SPr8 e) s =
      .next { s with regs := { s.regs with h := (v >>> 8).setWidth 8, l := v.setWidth 8, f := f } } ∧
    exec (.add_SP_r8 e) s = .next { s with regs := { s.regs with sp := v, f := f } }

/-- R450, R455 to R457: `PUSH qq` and `POP qq`. -/
def Obligations.PushAndPop : Prop :=
  ∀ (s t1 t2 : State) (q : StackPair) (lo hi : Byte),
    let w : Word := match q with
      | .bc => s.regs.b ++ s.regs.c
      | .de => s.regs.d ++ s.regs.e
      | .hl => s.regs.h ++ s.regs.l
      | .af => s.regs.a ++ (s.regs.f &&& 0xF0)
    (busWrite { s with regs := { s.regs with sp := s.regs.sp - 2 } } (s.regs.sp - 2) (w.setWidth 8) = .ok t1 →
      busWrite t1 (s.regs.sp - 1) ((w >>> 8).setWidth 8) = .ok t2 → exec (Instr.push q) s = .next t2) ∧
    (busRead s s.regs.sp = .ok lo → busRead s (s.regs.sp + 1) = .ok hi →
      exec (Instr.pop q) s = .next { s with regs := match q with
        | .bc => { s.regs with b := hi, c := lo, sp := s.regs.sp + 2 }
        | .de => { s.regs with d := hi, e := lo, sp := s.regs.sp + 2 }
        | .hl => { s.regs with h := hi, l := lo, sp := s.regs.sp + 2 }
        | .af => { s.regs with a := hi, f := lo &&& 0xF0, sp := s.regs.sp + 2 } })

/-- R450: "Push of any 16-bit value followed by pop yields the same value and restores SP" where both stack bytes are in
RAM; nothing but those two bytes has changed. -/
def Obligations.PushThenPopRestores : Prop :=
  ∀ (s : State) (q : StackPair), s.Inv → RamAddress (s.regs.sp - 2) → RamAddress (s.regs.sp - 1) →
    Gives (exec (Instr.push q) s) fun t => Gives (exec (Instr.pop q) t) fun u =>
      u.regs = s.regs ∧ u.status = s.status ∧
      ∀ a, a ≠ s.regs.sp - 2 → a ≠ s.regs.sp - 1 → busRead u a = busRead s a

/-! ## 8-bit arithmetic and logic -/

/-- R500, R503, R504: `ADD` and `ADC`, on a register, `(HL)` or an immediate. -/
def Obligations.AddAndAdc : Prop :=
  ∀ (s : State) (v : Byte) (o : Operand8),
    let sum := fun (cin : Nat) => { s with regs := { s.regs with
      a := BitVec.ofNat 8 (s.regs.a.toNat + v.toNat + cin)
      f := packFlags (decide ((s.regs.a.toNat + v.toNat + cin) % 256 = 0)) false
        (decide (s.regs.a.toNat % 16 + v.toNat % 16 + cin > 0xF)) (decide (s.regs.a.toNat + v.toNat + cin > 0xFF)) } }
    let c := if s.regs.f.getLsbD 4 then 1 else 0
    exec (Instr.aluImm v .add) s = .next (sum 0) ∧ exec (Instr.aluImm v .adc) s = .next (sum c) ∧
    (OperandReads s o v → exec (Instr.alu .add o) s = .next (sum 0) ∧ exec (Instr.alu .adc o) s = .next (sum c))

/-- R501, R505, R506, R510: `SUB`, `SBC` and `CP`, on a register, `(HL)` or an immediate. -/
def Obligations.SubSbcAndCp : Prop :=
  ∀ (s : State) (v : Byte) (o : Operand8),
    let r := fun (cin : Nat) => BitVec.ofInt 8 (s.regs.a.toNat - v.toNat - cin : Int)
    let f := fun (cin : Nat) => packFlags (decide (r cin = 0)) true (decide (v.toNat % 16 + cin > s.regs.a.toNat % 16))
      (decide (v.toNat + cin > s.regs.a.toNat))
    let diff := fun (cin : Nat) => { s with regs := { s.regs with a := r cin, f := f cin } }
    let compared := { s with regs := { s.regs with f := f 0 } }
    let c := if s.regs.f.getLsbD 4 then 1 else 0
    exec (Instr.aluImm v .sub) s = .next (diff 0) ∧ exec (Instr.aluImm v .sbc) s = .next (diff c) ∧
    exec (Instr.aluImm v .cp) s = .next compared ∧
    (OperandReads s o v → exec (Instr.alu .sub o) s = .next (diff 0) ∧ exec (Instr.alu .sbc o) s = .next (diff c) ∧
      exec (Instr.alu .cp o) s = .next compared)

/-- R507, R508, R509: `AND`, `XOR` and `OR`, on a register, `(HL)` or an immediate. -/
def Obligations.AndXorAndOr : Prop :=
  ∀ (s : State) (v : Byte) (o : Operand8),
    let out := fun (r : Byte) (h : Bool) =>
      { s with regs := { s.regs with a := r, f := packFlags (decide (r = 0)) false h false } }
    exec (Instr.aluImm v .and) s = .next (out (s.regs.a &&& v) true) ∧
    exec (Instr.aluImm v .xor) s = .next (out (s.regs.a ^^^ v) false) ∧
    exec (Instr.aluImm v .or) s = .next (out (s.regs.a ||| v) false) ∧
    (OperandReads s o v → exec (Instr.alu .and o) s = .next (out (s.regs.a &&& v) true) ∧
      exec (Instr.alu .xor o) s = .next (out (s.regs.a ^^^ v) false) ∧
      exec (Instr.alu .or o) s = .next (out (s.regs.a ||| v) false))

/-- R511 to R514: 8-bit `INC` and `DEC` on a register or `(HL)`; C is kept. -/
def Obligations.IncAndDec : Prop :=
  ∀ (s : State) (v : Byte) (o : Operand8), OperandReads s o v →
    WritesOperand s o (v + 1) (packFlags (decide (v = 0xFF)) false (decide (v.toNat % 16 = 0xF)) (s.regs.f.getLsbD 4))
      (exec (Instr.inc o) s) ∧
    WritesOperand s o (v - 1) (packFlags (decide (v = 0x01)) true (decide (v.toNat % 16 = 0)) (s.regs.f.getLsbD 4))
      (exec (Instr.dec o) s)

/-! ## 16-bit arithmetic -/

/-- R551, R552, R553: `INC rr`, `DEC rr` (no flag) and `ADD HL,rr` (Z kept). -/
def Obligations.WordArithmetic : Prop :=
  ∀ s : State,
    let bc := (s.regs.b ++ s.regs.c : Word)
    let de := (s.regs.d ++ s.regs.e : Word)
    let hl := (s.regs.h ++ s.regs.l : Word)
    let sum := fun (w : Word) => { s with regs := { s.regs with
      h := ((hl + w) >>> 8).setWidth 8
      l := (hl + w).setWidth 8
      f := packFlags (s.regs.f.getLsbD 7) false (decide (hl.toNat % 0x1000 + w.toNat % 0x1000 > 0x0FFF))
        (decide (hl.toNat + w.toNat > 0xFFFF)) } }
    exec .inc_BC s = .next { s with regs := { s.regs with b := ((bc + 1) >>> 8).setWidth 8, c := (bc + 1).setWidth 8 } } ∧
    exec .inc_DE s = .next { s with regs := { s.regs with d := ((de + 1) >>> 8).setWidth 8, e := (de + 1).setWidth 8 } } ∧
    exec .inc_HL s = .next { s with regs := { s.regs with h := ((hl + 1) >>> 8).setWidth 8, l := (hl + 1).setWidth 8 } } ∧
    exec .inc_SP s = .next { s with regs := { s.regs with sp := s.regs.sp + 1 } } ∧
    exec .dec_BC s = .next { s with regs := { s.regs with b := ((bc - 1) >>> 8).setWidth 8, c := (bc - 1).setWidth 8 } } ∧
    exec .dec_DE s = .next { s with regs := { s.regs with d := ((de - 1) >>> 8).setWidth 8, e := (de - 1).setWidth 8 } } ∧
    exec .dec_HL s = .next { s with regs := { s.regs with h := ((hl - 1) >>> 8).setWidth 8, l := (hl - 1).setWidth 8 } } ∧
    exec .dec_SP s = .next { s with regs := { s.regs with sp := s.regs.sp - 1 } } ∧
    exec .add_HL_BC s = .next (sum bc) ∧ exec .add_HL_DE s = .next (sum de) ∧ exec .add_HL_HL s = .next (sum hl) ∧
    exec .add_HL_SP s = .next (sum s.regs.sp)

/-! ## Rotates, shifts, bits -/

/-- R600 to R603: the accumulator rotates; Z, N and H are 0, C is the bit shifted out. -/
def Obligations.AccumulatorRotates : Prop :=
  ∀ s : State,
    let a := s.regs.a
    let c := if s.regs.f.getLsbD 4 then 1 else 0
    let out := fun (r : Byte) (carry : Bool) =>
      { s with regs := { s.regs with a := r, f := packFlags false false false carry } }
    exec .rlca s = .next (out (a.rotateLeft 1) (a.getLsbD 7)) ∧
    exec .rrca s = .next (out (a.rotateRight 1) (a.getLsbD 0)) ∧
    exec .rla s = .next (out (BitVec.ofNat 8 (2 * a.toNat + c)) (a.getLsbD 7)) ∧
    exec .rra s = .next (out (BitVec.ofNat 8 (a.toNat / 2 + 128 * c)) (a.getLsbD 0))

/-- R604 to R611: the CB-prefixed rotates, shifts and SWAP on a register or `(HL)`; Z from the result, N and H are 0, C is
the bit shifted out (0 for SWAP). -/
def Obligations.RotatesShiftsAndSwap : Prop :=
  ∀ (s : State) (v : Byte) (o : Operand8), OperandReads s o v →
    let c := if s.regs.f.getLsbD 4 then 1 else 0
    let out := fun (op : RotOp) (r : Byte) (carry : Bool) =>
      WritesOperand s o r (packFlags (decide (r = 0)) false false carry) (exec (Instr.rot op o) s)
    out .rlc (v.rotateLeft 1) (v.getLsbD 7) ∧ out .rrc (v.rotateRight 1) (v.getLsbD 0) ∧
    out .rl (BitVec.ofNat 8 (2 * v.toNat + c)) (v.getLsbD 7) ∧
    out .rr (BitVec.ofNat 8 (v.toNat / 2 + 128 * c)) (v.getLsbD 0) ∧
    out .sla (BitVec.ofNat 8 (2 * v.toNat)) (v.getLsbD 7) ∧ out .sra (v.sshiftRight 1) (v.getLsbD 0) ∧
    out .swap (BitVec.ofNat 8 (v.toNat % 16 * 16 + v.toNat / 16)) false ∧
    out .srl (BitVec.ofNat 8 (v.toNat / 2)) (v.getLsbD 0)

/-- R650, R651, R652: `BIT` sets Z from the complement of the bit, N 0, H 1, keeps C and writes no operand; `RES` and `SET`
change that one bit and no flag. -/
def Obligations.BitResAndSet : Prop :=
  ∀ (s : State) (v r : Byte) (b : Fin 8) (o : Operand8), OperandReads s o v →
    exec (Instr.bit b o) s = .next { s with regs := { s.regs with
      f := packFlags (!v.getLsbD b.val) false true (s.regs.f.getLsbD 4) } } ∧
    ((∀ j, j < 8 → r.getLsbD j = if j = b.val then false else v.getLsbD j) →
      WritesOperand s o r s.regs.f (exec (Instr.res b o) s)) ∧
    ((∀ j, j < 8 → r.getLsbD j = if j = b.val then true else v.getLsbD j) →
      WritesOperand s o r s.regs.f (exec (Instr.set b o) s))

/-! ## Control transfer -/

/-- R700 to R704: the jumps. PC already addresses the next instruction. -/
def Obligations.Jumps : Prop :=
  ∀ (s : State) (a : Word) (e : Byte),
    let into := fun (t : Word) => { s with regs := { s.regs with pc := t } }
    let rel := BitVec.ofInt 16 (s.regs.pc.toNat + e.toInt)
    let z := s.regs.f.getLsbD 7
    let c := s.regs.f.getLsbD 4
    exec (.jp_a16 a) s = .next (into a) ∧ exec .jp_HL s = .next (into (s.regs.h ++ s.regs.l)) ∧
    exec (.jr_r8 e) s = .next (into rel) ∧
    exec (.jp_NZ_a16 a) s = .next (if z then s else into a) ∧ exec (.jp_Z_a16 a) s = .next (if z then into a else s) ∧
    exec (.jp_NC_a16 a) s = .next (if c then s else into a) ∧ exec (.jp_C_a16 a) s = .next (if c then into a else s) ∧
    exec (.jr_NZ_r8 e) s = .next (if z then s else into rel) ∧ exec (.jr_Z_r8 e) s = .next (if z then into rel else s) ∧
    exec (.jr_NC_r8 e) s = .next (if c then s else into rel) ∧ exec (.jr_C_r8 e) s = .next (if c then into rel else s)

/-- R705, R706, R710: the calls and `RST` push the post-operand PC, low byte at the new SP, and jump; a call whose condition
fails changes nothing. -/
def Obligations.CallsAndRestarts : Prop :=
  ∀ (s t1 t2 : State) (a : Word) (t : Fin 8),
    let z := s.regs.f.getLsbD 7
    let c := s.regs.f.getLsbD 4
    let into := fun (w : Word) => Host.Outcome.next (φ := Fault) (ρ := Refusal) { t2 with regs := { t2.regs with pc := w } }
    (z = true → exec (.call_NZ_a16 a) s = .next s) ∧ (z = false → exec (.call_Z_a16 a) s = .next s) ∧
    (c = true → exec (.call_NC_a16 a) s = .next s) ∧ (c = false → exec (.call_C_a16 a) s = .next s) ∧
    (busWrite { s with regs := { s.regs with sp := s.regs.sp - 2 } } (s.regs.sp - 2) (s.regs.pc.setWidth 8) = .ok t1 →
      busWrite t1 (s.regs.sp - 1) ((s.regs.pc >>> 8).setWidth 8) = .ok t2 →
      exec (.call_a16 a) s = into a ∧ exec (Instr.rst t) s = into (BitVec.ofNat 16 (8 * t.val)) ∧
      (z = false → exec (.call_NZ_a16 a) s = into a) ∧ (z = true → exec (.call_Z_a16 a) s = into a) ∧
      (c = false → exec (.call_NC_a16 a) s = into a) ∧ (c = true → exec (.call_C_a16 a) s = into a))

/-- R707, R708, R709: the returns pop PC (`RETI` also sets IME); a return whose condition fails changes nothing. -/
def Obligations.Returns : Prop :=
  ∀ (s : State) (lo hi : Byte),
    let z := s.regs.f.getLsbD 7
    let c := s.regs.f.getLsbD 4
    let back := { s with regs := { s.regs with pc := hi ++ lo, sp := s.regs.sp + 2 } }
    (z = true → exec .ret_NZ s = .next s) ∧ (z = false → exec .ret_Z s = .next s) ∧
    (c = true → exec .ret_NC s = .next s) ∧ (c = false → exec .ret_C s = .next s) ∧
    (busRead s s.regs.sp = .ok lo → busRead s (s.regs.sp + 1) = .ok hi →
      exec .ret s = .next back ∧ exec .reti s = .next { back with ime := true } ∧
      (z = false → exec .ret_NZ s = .next back) ∧ (z = true → exec .ret_Z s = .next back) ∧
      (c = false → exec .ret_NC s = .next back) ∧ (c = true → exec .ret_C s = .next back))

/-! ## DAA, flags, interrupt enable, power -/

/-- R750: DAA, on every A, N, H and C. -/
def Obligations.DecimalAdjust : Prop :=
  ∀ s : State,
    let a := s.regs.a.toNat
    let n := s.regs.f.getLsbD 6
    let h := s.regs.f.getLsbD 5
    let c := s.regs.f.getLsbD 4
    let high : Nat := if c = true ∨ (n = false ∧ a > 0x99) then 0x60 else 0
    let low : Nat := if h = true ∨ (n = false ∧ a % 16 > 9) then 0x06 else 0
    let r := if n then BitVec.ofInt 8 (a - high - low : Int) else BitVec.ofNat 8 (a + high + low)
    exec .daa s = .next { s with regs := { s.regs with
      a := r
      f := packFlags (decide (r = 0)) n false (decide (high = 0x60)) } }

/-- Two BCD digits of a number below 100. -/
def bcd (x : Nat) : Byte := BitVec.ofNat 8 (x / 10 * 16 + x % 10)

/-- R750, its invariant: after `ADD` or `SUB` of two packed-BCD bytes, DAA leaves the BCD of the sum or difference modulo
100, and C says whether the decimal result left two digits. -/
def Obligations.DecimalAdjustIsCorrect : Prop :=
  ∀ (s : State) (x y : Nat), x < 100 → y < 100 → s.regs.a = bcd x →
    Gives (exec (Instr.aluImm (bcd y) .add) s) (fun t => Gives (exec .daa t) fun u =>
      u.regs.a = bcd ((x + y) % 100) ∧ u.regs.f.getLsbD 4 = decide (x + y > 99)) ∧
    Gives (exec (Instr.aluImm (bcd y) .sub) s) (fun t => Gives (exec .daa t) fun u =>
      u.regs.a = bcd ((100 + x - y) % 100) ∧ u.regs.f.getLsbD 4 = decide (x < y))

/-- R102, R751, R752, R753: the places of the flags in F, and CPL, SCF, CCF. -/
def Obligations.FlagInstructions : Prop :=
  (∀ z n h c : Bool, (packFlags z n h c).getLsbD 7 = z ∧ (packFlags z n h c).getLsbD 6 = n ∧
    (packFlags z n h c).getLsbD 5 = h ∧ (packFlags z n h c).getLsbD 4 = c ∧ packFlags z n h c &&& 0x0F = 0) ∧
  ∀ s : State,
    let z := s.regs.f.getLsbD 7
    let c := s.regs.f.getLsbD 4
    exec .cpl s = .next { s with regs := { s.regs with a := ~~~s.regs.a, f := packFlags z true true c } } ∧
    exec .scf s = .next { s with regs := { s.regs with f := packFlags z false false true } } ∧
    exec .ccf s = .next { s with regs := { s.regs with f := packFlags z false false (!c) } }

/-- R754 to R758: NOP, HALT and STOP change nothing (HALT and STOP are no-ops of this implementation); DI and EI write IME
at once. -/
def Obligations.NopHaltStopDiAndEi : Prop :=
  ∀ (s : State) (ignored : Byte),
    exec .nop s = .next s ∧ exec .halt s = .next s ∧ exec (.stop ignored) s = .next s ∧
    exec .di s = .next { s with ime := false } ∧ exec .ei s = .next { s with ime := true }
end

