-- ==== Sys2Proof/Laws/Bits.lean ====
section
/-! SUPPORT. The byte-order helpers of R7 against shifts, widths and each other. -/

namespace Sys2Proof.Machine

theorem hiByte_eq (w : Word) : hiByte w = (w >>> 8).setWidth 8 := by
  apply BitVec.eq_of_getLsbD_eq
  intro i hi
  simp [hiByte, hi, Nat.add_comm]

theorem loByte_eq (w : Word) : loByte w = w.setWidth 8 := by
  apply BitVec.eq_of_getLsbD_eq
  intro i hi
  simp [loByte, hi]

@[simp] theorem hiByte_joinBytes (hi lo : Byte) : hiByte (joinBytes hi lo) = hi := by
  apply BitVec.eq_of_getLsbD_eq
  intro i h
  have key : (hi ++ lo).getLsbD (8 + i) = hi.getLsbD i := by rw [BitVec.getLsbD_append]; simp
  simpa [hiByte, joinBytes, h] using key

@[simp] theorem loByte_joinBytes (hi lo : Byte) : loByte (joinBytes hi lo) = lo := by
  apply BitVec.eq_of_getLsbD_eq
  intro i h
  have key : (hi ++ lo).getLsbD i = lo.getLsbD i := by rw [BitVec.getLsbD_append]; simp [h]
  simpa [loByte, joinBytes, h] using key

@[simp] theorem joinBytes_hiByte_loByte (w : Word) : joinBytes (hiByte w) (loByte w) = w := by
  apply BitVec.eq_of_getLsbD_eq
  intro i hi
  simp only [hiByte, loByte, joinBytes, BitVec.getLsbD_append, BitVec.getLsbD_extractLsb']
  by_cases h : i < 8
  · simp [h]
  · simp [h, show i - 8 < 8 by omega, show 8 + (i - 8) = i by omega]

theorem sext16_eq (e : Byte) : sext16 e = BitVec.ofInt 16 e.toInt := rfl

/-- Adding a sign-extended byte is adding its signed value over the integers (R7, R550, R703). -/
theorem add_sext16 (w : Word) (e : Byte) : w + sext16 e = BitVec.ofInt 16 (w.toNat + e.toInt) := by
  rw [sext16_eq, BitVec.ofInt_add, BitVec.ofInt_natCast, BitVec.ofNat_toNat, BitVec.setWidth_eq]

/-- The bits of a byte with one bit. -/
theorem bitMask_getLsbD (k i : Nat) : (bitMask k).getLsbD i = (decide (i < 8) && decide (i = k)) := by
  unfold bitMask
  by_cases h : i = k
  · subst h; simp
  · simp only [BitVec.getLsbD_shiftLeft, h, decide_false, Bool.and_false]
    by_cases h2 : i < k
    · simp [h2]
    · simp [h2, show i - k ≠ 0 by omega]

/-- The byte that differs from `v` in bit `b` alone, cleared. -/
theorem clearBit_unique {v r : Byte} {b : Nat} (h : ∀ j, j < 8 → r.getLsbD j = if j = b then false else v.getLsbD j) :
    v &&& ~~~(bitMask b) = r := by
  apply BitVec.eq_of_getLsbD_eq
  intro i hi
  rw [h i hi, BitVec.getLsbD_and, BitVec.getLsbD_not, bitMask_getLsbD]
  by_cases hb : i = b <;> simp [hb, hi]

/-- The byte that differs from `v` in bit `b` alone, set. -/
theorem setBit_unique {v r : Byte} {b : Nat} (h : ∀ j, j < 8 → r.getLsbD j = if j = b then true else v.getLsbD j) :
    v ||| bitMask b = r := by
  apply BitVec.eq_of_getLsbD_eq
  intro i hi
  rw [h i hi, BitVec.getLsbD_or, bitMask_getLsbD]
  by_cases hb : i = b
  · subst hb; simp [hi]
  · simp [hb]

end Sys2Proof.Machine
end

