-- ==== Sys2Proof/Laws/Memory.lean ====
section
/-! SUPPORT. The laws of the memory arrays and of the framebuffer: reading what was written, leaving the rest alone,
keeping the canonical form and the bounds. -/

namespace Sys2Proof.Machine

/-! ## Memory arrays -/

@[simp] theorem Memory.read_nil (i : Nat) : Memory.read [] i = 0x00 := rfl

/-- An offset below every listed one reads as unlisted. -/
theorem Memory.read_below (m : Memory) (i : Nat) (h : ∀ c ∈ m, i < c.1) : Memory.read m i = Memory.unlisted := by
  cases m with
  | nil => rfl
  | cons c m =>
    have hc := h c (by simp)
    simp [Memory.read, hc, Nat.ne_of_lt hc]

theorem Memory.wf_tail {c : Host.Cell} {m : Memory} (h : Memory.wf (c :: m)) : Memory.wf m :=
  ⟨h.1.tail, fun x hx => h.2 x (List.mem_cons_of_mem _ hx)⟩

theorem Memory.wf_head {c : Host.Cell} {m : Memory} (h : Memory.wf (c :: m)) : ∀ x ∈ m, c.1 < x.1 :=
  (List.pairwise_cons.mp h.1).1

/-- `Memory.cons` in front of a memory whose offsets are larger keeps the canonical form. -/
theorem Memory.cons_wf {i : Nat} {v : Byte} {m : Memory} (h : Memory.wf m) (hi : ∀ c ∈ m, i < c.1) :
    Memory.wf (Memory.cons i v m) := by
  unfold Memory.cons
  split
  case isTrue => exact h
  case isFalse hv =>
    refine ⟨List.pairwise_cons.mpr ⟨hi, h.1⟩, ?_⟩
    rintro c (_ | ⟨_, hc⟩)
    · exact hv
    · exact h.2 c hc

theorem Memory.mem_cons_cases {i : Nat} {v : Byte} {m : Memory} {c : Host.Cell} (h : c ∈ Memory.cons i v m) :
    c.1 = i ∨ c ∈ m := by
  unfold Memory.cons at h
  split at h
  · exact .inr h
  · rcases List.mem_cons.mp h with rfl | h
    · exact .inl rfl
    · exact .inr h

/-- What `Memory.cons` reads as. -/
theorem Memory.read_cons (i j : Nat) (v : Byte) (m : Memory) (hi : ∀ c ∈ m, i < c.1) :
    (Memory.cons i v m).read j = if j = i then v else m.read j := by
  unfold Memory.cons
  split
  case isTrue hv =>
    split
    case isTrue hj => rw [hj, hv, Memory.read_below m i hi]
    case isFalse => rfl
  case isFalse =>
    simp only [Memory.read]
    split
    · rfl
    · split
      case isTrue hlt => exact (Memory.read_below m j fun c hc => Nat.lt_trans hlt (hi c hc)).symm
      case isFalse => rfl

/-- Every offset of a written memory is the one written or was there before. -/
theorem Memory.mem_write {m : Memory} {i : Nat} {v : Byte} {c : Host.Cell} (h : c ∈ m.write i v) :
    c.1 = i ∨ c ∈ m := by
  induction m with
  | nil => exact (Memory.mem_cons_cases h).imp_right id
  | cons d m ih =>
    simp only [Memory.write] at h
    split at h
    · exact Memory.mem_cons_cases h
    · split at h
      · exact (Memory.mem_cons_cases h).imp_right (List.mem_cons_of_mem _)
      · rcases List.mem_cons.mp h with rfl | h
        · exact .inr (by simp)
        · exact (ih h).imp_right (List.mem_cons_of_mem _)

/-- EVERY WRITE KEEPS THE CANONICAL FORM. -/
theorem Memory.write_wf {m : Memory} (h : m.wf) (i : Nat) (v : Byte) : (m.write i v).wf := by
  induction m with
  | nil => exact Memory.cons_wf h (by simp)
  | cons d m ih =>
    have hd := Memory.wf_head h
    simp only [Memory.write]
    split
    case isTrue hlt =>
      refine Memory.cons_wf h ?_
      rintro c (_ | ⟨_, hc⟩)
      · exact hlt
      · exact Nat.lt_trans hlt (hd c hc)
    case isFalse hge =>
      split
      case isTrue heq => exact Memory.cons_wf (Memory.wf_tail h) (fun c hc => heq ▸ hd c hc)
      case isFalse hne =>
        have ht := ih (Memory.wf_tail h)
        refine ⟨List.pairwise_cons.mpr ⟨fun c hc => ?_, ht.1⟩, ?_⟩
        · rcases Memory.mem_write hc with hc | hc
          · simp only; omega
          · exact hd c hc
        · rintro c (_ | ⟨_, hc⟩)
          · exact h.2 _ (by simp)
          · exact ht.2 c hc

/-- EVERY WRITE STAYS INSIDE THE ARRAY. -/
theorem Memory.write_fits {m : Memory} {n : Nat} (h : m.Fits n) {i : Nat} (hi : i < n) (v : Byte) :
    (m.write i v).Fits n := by
  refine ⟨Memory.write_wf h.1 i v, fun c hc => ?_⟩
  rcases Memory.mem_write hc with hc | hc
  · rw [hc]; exact hi
  · exact h.2 c hc

/-- READ AFTER WRITE. -/
theorem Memory.read_write {m : Memory} (h : m.wf) (i j : Nat) (v : Byte) :
    (m.write i v).read j = if j = i then v else m.read j := by
  induction m with
  | nil => exact Memory.read_cons i j v [] (by simp)
  | cons d m ih =>
    obtain ⟨k, w⟩ := d
    have hd := Memory.wf_head h
    simp only [Memory.write]
    split
    case isTrue hlt =>
      refine Memory.read_cons i j v _ ?_
      rintro c (_ | ⟨_, hc⟩)
      · exact hlt
      · exact Nat.lt_trans hlt (hd c hc)
    case isFalse hge =>
      split
      case isTrue heq =>
        subst heq
        rw [Memory.read_cons i j v m hd]
        simp only [Memory.read]
        split
        · rfl
        · split
          case isTrue hlt => exact Memory.read_below m j fun c hc => Nat.lt_trans hlt (hd c hc)
          case isFalse => rfl
      case isFalse hne =>
        simp only [Memory.read, ih (Memory.wf_tail h)]
        by_cases h1 : j = k
        · subst h1; rw [if_pos rfl, if_neg (fun hh => hne hh.symm), if_pos rfl]
        · by_cases h2 : j < k
          · rw [if_neg h1, if_pos h2, if_neg (show j ≠ i by omega), if_neg h1, if_pos h2]
          · rw [if_neg h1, if_neg h2, if_neg h1, if_neg h2]

@[simp] theorem Memory.read_write_self {m : Memory} (h : m.wf) (i : Nat) (v : Byte) : (m.write i v).read i = v := by
  rw [Memory.read_write h, if_pos rfl]

theorem Memory.read_write_ne {m : Memory} (h : m.wf) {i j : Nat} (hj : j ≠ i) (v : Byte) :
    (m.write i v).read j = m.read j := by
  rw [Memory.read_write h, if_neg hj]

/-- Equal reads make equal memories: the form is canonical. -/
theorem Memory.ext_read {m n : Memory} (hm : m.wf) (hn : n.wf) (h : ∀ i, m.read i = n.read i) : m = n := by
  induction m generalizing n with
  | nil =>
    cases n with
    | nil => rfl
    | cons d n =>
      have := h d.1
      simp only [Memory.read, if_true] at this
      exact absurd this.symm (hn.2 d (by simp))
  | cons c m ih =>
    obtain ⟨i, v⟩ := c
    have hv : v ≠ Memory.unlisted := hm.2 (i, v) (by simp)
    cases n with
    | nil =>
      have := h i
      simp only [Memory.read, if_true] at this
      exact absurd this hv
    | cons d n =>
      obtain ⟨j, w⟩ := d
      have hw : w ≠ Memory.unlisted := hn.2 (j, w) (by simp)
      have hij : i = j := by
        rcases Nat.lt_trichotomy i j with hlt | heq | hlt
        · have := h i
          simp only [Memory.read, if_true, if_neg (Nat.ne_of_lt hlt), if_pos hlt] at this
          exact absurd this hv
        · exact heq
        · have := h j
          simp only [Memory.read, if_true, if_neg (Nat.ne_of_lt hlt), if_pos hlt] at this
          exact absurd this.symm hw
      subst hij
      have hvw : v = w := by simpa [Memory.read] using h i
      subst hvw
      refine congrArg _ (ih (Memory.wf_tail hm) (Memory.wf_tail hn) fun k => ?_)
      by_cases hk : k ≤ i
      · rw [Memory.read_below m k fun c hc => Nat.lt_of_le_of_lt hk (Memory.wf_head hm c hc),
          Memory.read_below n k fun c hc => Nat.lt_of_le_of_lt hk (Memory.wf_head hn c hc)]
      · have := h k
        simpa only [Memory.read, if_neg (show k ≠ i by omega), if_neg (show ¬ k < i by omega)] using this

/-! ## A memory from bytes -/

theorem Memory.mem_ofBytes {bs : List Byte} {i : Nat} {c : Host.Cell} (h : c ∈ Memory.ofBytes i bs) :
    i ≤ c.1 ∧ c.1 < i + bs.length := by
  induction bs generalizing i with
  | nil => simp [Memory.ofBytes] at h
  | cons b bs ih =>
    rcases Memory.mem_cons_cases h with hc | hc
    · simp only [List.length_cons]; omega
    · have := ih hc
      simp only [List.length_cons]; omega

theorem Memory.ofBytes_wf (bs : List Byte) (i : Nat) : (Memory.ofBytes i bs).wf := by
  induction bs generalizing i with
  | nil => exact ⟨List.Pairwise.nil, by simp [Memory.ofBytes]⟩
  | cons b bs ih => exact Memory.cons_wf (ih (i + 1)) fun c hc => (Memory.mem_ofBytes hc).1

theorem Memory.ofBytes_fits (bs : List Byte) : (Memory.ofBytes 0 bs).Fits bs.length :=
  ⟨Memory.ofBytes_wf bs 0, fun c hc => by have := (Memory.mem_ofBytes hc).2; omega⟩

/-- A memory made of bytes reads as those bytes. -/
theorem Memory.read_ofBytes (bs : List Byte) (i k : Nat) (h : k < bs.length) :
    (Memory.ofBytes i bs).read (i + k) = bs[k] := by
  induction bs generalizing i k with
  | nil => simp at h
  | cons b bs ih =>
    rw [Memory.ofBytes, Memory.read_cons _ _ _ _ fun c hc => (Memory.mem_ofBytes hc).1]
    cases k with
    | zero => simp
    | succ k =>
      rw [if_neg (by omega), show i + (k + 1) = (i + 1) + k by omega]
      exact ih (i + 1) k (Nat.lt_of_succ_lt_succ h)

/-! ## The framebuffer -/

theorem Framebuffer.mem_write {fb : Framebuffer} {i : Nat} {v : BitVec 2} {c : Nat × BitVec 2}
    (h : c ∈ fb.write i v) : c.1 = i ∨ c ∈ fb := by
  induction fb with
  | nil =>
    simp only [Framebuffer.write, List.mem_singleton] at h
    exact .inl (by rw [h])
  | cons d fb ih =>
    simp only [Framebuffer.write] at h
    split at h
    · rcases List.mem_cons.mp h with rfl | h
      · exact .inl rfl
      · exact .inr h
    · split at h
      · rcases List.mem_cons.mp h with rfl | h
        · exact .inl rfl
        · exact .inr (List.mem_cons_of_mem _ h)
      · rcases List.mem_cons.mp h with rfl | h
        · exact .inr (by simp)
        · exact (ih h).imp_right (List.mem_cons_of_mem _)

/-- Every write of a cell keeps the framebuffer's canonical form. -/
theorem Framebuffer.write_wf {fb : Framebuffer} (h : fb.wf) (i : Nat) (v : BitVec 2) : (fb.write i v).wf := by
  induction fb with
  | nil => exact List.pairwise_singleton _ _
  | cons d fb ih =>
    obtain ⟨hd, ht⟩ := List.pairwise_cons.mp h
    simp only [Framebuffer.write]
    split
    case isTrue hlt =>
      refine List.pairwise_cons.mpr ⟨?_, h⟩
      rintro c (_ | ⟨_, hc⟩)
      · exact hlt
      · exact Nat.lt_trans hlt (hd c hc)
    case isFalse hge =>
      split
      case isTrue heq => exact List.pairwise_cons.mpr ⟨fun c hc => heq ▸ hd c hc, ht⟩
      case isFalse hne =>
        refine List.pairwise_cons.mpr ⟨fun c hc => ?_, ih ht⟩
        rcases Framebuffer.mem_write hc with hc | hc
        · simp only; omega
        · exact hd c hc

/-- Reading a cell after writing one. -/
theorem Framebuffer.read_write {fb : Framebuffer} (h : fb.wf) (i j : Nat) (v : BitVec 2) :
    (fb.write i v).read j = if j = i then some v else fb.read j := by
  induction fb with
  | nil =>
    simp only [Framebuffer.write, Framebuffer.read]
    split <;> first | rfl | (split <;> rfl)
  | cons d fb ih =>
    obtain ⟨k, w⟩ := d
    obtain ⟨hd, ht⟩ := List.pairwise_cons.mp h
    have below : ∀ n, n < k → Framebuffer.read fb n = none := by
      intro n hn
      cases fb with
      | nil => rfl
      | cons e fb =>
        have he : k < e.1 := hd e (by simp)
        simp only [Framebuffer.read, if_neg (show n ≠ e.1 by omega), if_pos (show n < e.1 by omega)]
    simp only [Framebuffer.write]
    split
    case isTrue hlt =>
      simp only [Framebuffer.read]
      by_cases h1 : j = i
      · rw [if_pos h1, if_pos h1]
      · by_cases h2 : j < i
        · rw [if_neg h1, if_pos h2, if_neg h1, if_neg (show j ≠ k by omega), if_pos (show j < k by omega)]
        · rw [if_neg h1, if_neg h2, if_neg h1]
    case isFalse hge =>
      split
      case isTrue heq =>
        subst heq
        simp only [Framebuffer.read]
        split
        · rfl
        · split <;> rfl
      case isFalse hne =>
        simp only [Framebuffer.read, ih ht]
        by_cases h1 : j = k
        · rw [if_pos h1, if_neg (show j ≠ i by omega), if_pos h1]
        · by_cases h2 : j < k
          · rw [if_neg h1, if_pos h2, if_neg (show j ≠ i by omega), if_neg h1, if_pos h2]
          · rw [if_neg h1, if_neg h2, if_neg h1, if_neg h2]

/-- After reset every memory is in canonical form: nothing is listed. -/
theorem State.reset_memories_wf :
    State.reset.wram.wf ∧ State.reset.hram.wf ∧ State.reset.vram.wf ∧ State.reset.bootRom.wf ∧
      State.reset.cart.rom.wf ∧ State.reset.cart.eram.wf ∧ State.reset.ppu.fb.wf := by decide

end Sys2Proof.Machine
end

