-- ==== Sys2Proof/Laws/State.lean ====
section
/-! SUPPORT. One lemma per field per update of State and of the register file: what each update leaves in each field. -/

namespace Sys2Proof.Machine

section
variable (s : State) (r : Regs)
@[simp] theorem State.setRegs_regs : (s.setRegs r).regs = r := rfl
@[simp] theorem State.setRegs_ime : (s.setRegs r).ime = s.ime := rfl
@[simp] theorem State.setRegs_history : (s.setRegs r).history = s.history := rfl
@[simp] theorem State.setRegs_status : (s.setRegs r).status = s.status := rfl
@[simp] theorem State.setRegs_wram : (s.setRegs r).wram = s.wram := rfl
@[simp] theorem State.setRegs_hram : (s.setRegs r).hram = s.hram := rfl
@[simp] theorem State.setRegs_vram : (s.setRegs r).vram = s.vram := rfl
@[simp] theorem State.setRegs_bootRom : (s.setRegs r).bootRom = s.bootRom := rfl
@[simp] theorem State.setRegs_bootMode : (s.setRegs r).bootMode = s.bootMode := rfl
@[simp] theorem State.setRegs_cart : (s.setRegs r).cart = s.cart := rfl
@[simp] theorem State.setRegs_ie : (s.setRegs r).ie = s.ie := rfl
@[simp] theorem State.setRegs_iflag : (s.setRegs r).iflag = s.iflag := rfl
@[simp] theorem State.setRegs_timer : (s.setRegs r).timer = s.timer := rfl
@[simp] theorem State.setRegs_ppu : (s.setRegs r).ppu = s.ppu := rfl
@[simp] theorem State.setRegs_joypad : (s.setRegs r).joypad = s.joypad := rfl
@[simp] theorem State.setRegs_queue : (s.setRegs r).queue = s.queue := rfl
@[simp] theorem State.setRegs_driver : (s.setRegs r).driver = s.driver := rfl
end

section
variable (s : State) (b : Bool)
@[simp] theorem State.setIme_regs : (s.setIme b).regs = s.regs := rfl
@[simp] theorem State.setIme_ime : (s.setIme b).ime = b := rfl
@[simp] theorem State.setIme_history : (s.setIme b).history = s.history := rfl
@[simp] theorem State.setIme_status : (s.setIme b).status = s.status := rfl
@[simp] theorem State.setIme_wram : (s.setIme b).wram = s.wram := rfl
@[simp] theorem State.setIme_hram : (s.setIme b).hram = s.hram := rfl
@[simp] theorem State.setIme_vram : (s.setIme b).vram = s.vram := rfl
@[simp] theorem State.setIme_bootRom : (s.setIme b).bootRom = s.bootRom := rfl
@[simp] theorem State.setIme_bootMode : (s.setIme b).bootMode = s.bootMode := rfl
@[simp] theorem State.setIme_cart : (s.setIme b).cart = s.cart := rfl
@[simp] theorem State.setIme_ie : (s.setIme b).ie = s.ie := rfl
@[simp] theorem State.setIme_iflag : (s.setIme b).iflag = s.iflag := rfl
@[simp] theorem State.setIme_timer : (s.setIme b).timer = s.timer := rfl
@[simp] theorem State.setIme_ppu : (s.setIme b).ppu = s.ppu := rfl
@[simp] theorem State.setIme_joypad : (s.setIme b).joypad = s.joypad := rfl
@[simp] theorem State.setIme_queue : (s.setIme b).queue = s.queue := rfl
@[simp] theorem State.setIme_driver : (s.setIme b).driver = s.driver := rfl
end

section
variable (s : State) (h : List Word)
@[simp] theorem State.setHistory_regs : (s.setHistory h).regs = s.regs := rfl
@[simp] theorem State.setHistory_ime : (s.setHistory h).ime = s.ime := rfl
@[simp] theorem State.setHistory_history : (s.setHistory h).history = h := rfl
@[simp] theorem State.setHistory_status : (s.setHistory h).status = s.status := rfl
@[simp] theorem State.setHistory_wram : (s.setHistory h).wram = s.wram := rfl
@[simp] theorem State.setHistory_hram : (s.setHistory h).hram = s.hram := rfl
@[simp] theorem State.setHistory_vram : (s.setHistory h).vram = s.vram := rfl
@[simp] theorem State.setHistory_bootRom : (s.setHistory h).bootRom = s.bootRom := rfl
@[simp] theorem State.setHistory_bootMode : (s.setHistory h).bootMode = s.bootMode := rfl
@[simp] theorem State.setHistory_cart : (s.setHistory h).cart = s.cart := rfl
@[simp] theorem State.setHistory_ie : (s.setHistory h).ie = s.ie := rfl
@[simp] theorem State.setHistory_iflag : (s.setHistory h).iflag = s.iflag := rfl
@[simp] theorem State.setHistory_timer : (s.setHistory h).timer = s.timer := rfl
@[simp] theorem State.setHistory_ppu : (s.setHistory h).ppu = s.ppu := rfl
@[simp] theorem State.setHistory_joypad : (s.setHistory h).joypad = s.joypad := rfl
@[simp] theorem State.setHistory_queue : (s.setHistory h).queue = s.queue := rfl
@[simp] theorem State.setHistory_driver : (s.setHistory h).driver = s.driver := rfl
end

section
variable (s : State) (x : Status)
@[simp] theorem State.setStatus_regs : (s.setStatus x).regs = s.regs := rfl
@[simp] theorem State.setStatus_ime : (s.setStatus x).ime = s.ime := rfl
@[simp] theorem State.setStatus_history : (s.setStatus x).history = s.history := rfl
@[simp] theorem State.setStatus_status : (s.setStatus x).status = x := rfl
@[simp] theorem State.setStatus_wram : (s.setStatus x).wram = s.wram := rfl
@[simp] theorem State.setStatus_hram : (s.setStatus x).hram = s.hram := rfl
@[simp] theorem State.setStatus_vram : (s.setStatus x).vram = s.vram := rfl
@[simp] theorem State.setStatus_bootRom : (s.setStatus x).bootRom = s.bootRom := rfl
@[simp] theorem State.setStatus_bootMode : (s.setStatus x).bootMode = s.bootMode := rfl
@[simp] theorem State.setStatus_cart : (s.setStatus x).cart = s.cart := rfl
@[simp] theorem State.setStatus_ie : (s.setStatus x).ie = s.ie := rfl
@[simp] theorem State.setStatus_iflag : (s.setStatus x).iflag = s.iflag := rfl
@[simp] theorem State.setStatus_timer : (s.setStatus x).timer = s.timer := rfl
@[simp] theorem State.setStatus_ppu : (s.setStatus x).ppu = s.ppu := rfl
@[simp] theorem State.setStatus_joypad : (s.setStatus x).joypad = s.joypad := rfl
@[simp] theorem State.setStatus_queue : (s.setStatus x).queue = s.queue := rfl
@[simp] theorem State.setStatus_driver : (s.setStatus x).driver = s.driver := rfl
end

section
variable (s : State) (m : Memory)
@[simp] theorem State.setWram_regs : (s.setWram m).regs = s.regs := rfl
@[simp] theorem State.setWram_ime : (s.setWram m).ime = s.ime := rfl
@[simp] theorem State.setWram_history : (s.setWram m).history = s.history := rfl
@[simp] theorem State.setWram_status : (s.setWram m).status = s.status := rfl
@[simp] theorem State.setWram_wram : (s.setWram m).wram = m := rfl
@[simp] theorem State.setWram_hram : (s.setWram m).hram = s.hram := rfl
@[simp] theorem State.setWram_vram : (s.setWram m).vram = s.vram := rfl
@[simp] theorem State.setWram_bootRom : (s.setWram m).bootRom = s.bootRom := rfl
@[simp] theorem State.setWram_bootMode : (s.setWram m).bootMode = s.bootMode := rfl
@[simp] theorem State.setWram_cart : (s.setWram m).cart = s.cart := rfl
@[simp] theorem State.setWram_ie : (s.setWram m).ie = s.ie := rfl
@[simp] theorem State.setWram_iflag : (s.setWram m).iflag = s.iflag := rfl
@[simp] theorem State.setWram_timer : (s.setWram m).timer = s.timer := rfl
@[simp] theorem State.setWram_ppu : (s.setWram m).ppu = s.ppu := rfl
@[simp] theorem State.setWram_joypad : (s.setWram m).joypad = s.joypad := rfl
@[simp] theorem State.setWram_queue : (s.setWram m).queue = s.queue := rfl
@[simp] theorem State.setWram_driver : (s.setWram m).driver = s.driver := rfl
end

section
variable (s : State) (m : Memory)
@[simp] theorem State.setHram_regs : (s.setHram m).regs = s.regs := rfl
@[simp] theorem State.setHram_ime : (s.setHram m).ime = s.ime := rfl
@[simp] theorem State.setHram_history : (s.setHram m).history = s.history := rfl
@[simp] theorem State.setHram_status : (s.setHram m).status = s.status := rfl
@[simp] theorem State.setHram_wram : (s.setHram m).wram = s.wram := rfl
@[simp] theorem State.setHram_hram : (s.setHram m).hram = m := rfl
@[simp] theorem State.setHram_vram : (s.setHram m).vram = s.vram := rfl
@[simp] theorem State.setHram_bootRom : (s.setHram m).bootRom = s.bootRom := rfl
@[simp] theorem State.setHram_bootMode : (s.setHram m).bootMode = s.bootMode := rfl
@[simp] theorem State.setHram_cart : (s.setHram m).cart = s.cart := rfl
@[simp] theorem State.setHram_ie : (s.setHram m).ie = s.ie := rfl
@[simp] theorem State.setHram_iflag : (s.setHram m).iflag = s.iflag := rfl
@[simp] theorem State.setHram_timer : (s.setHram m).timer = s.timer := rfl
@[simp] theorem State.setHram_ppu : (s.setHram m).ppu = s.ppu := rfl
@[simp] theorem State.setHram_joypad : (s.setHram m).joypad = s.joypad := rfl
@[simp] theorem State.setHram_queue : (s.setHram m).queue = s.queue := rfl
@[simp] theorem State.setHram_driver : (s.setHram m).driver = s.driver := rfl
end

section
variable (s : State) (m : Memory)
@[simp] theorem State.setVram_regs : (s.setVram m).regs = s.regs := rfl
@[simp] theorem State.setVram_ime : (s.setVram m).ime = s.ime := rfl
@[simp] theorem State.setVram_history : (s.setVram m).history = s.history := rfl
@[simp] theorem State.setVram_status : (s.setVram m).status = s.status := rfl
@[simp] theorem State.setVram_wram : (s.setVram m).wram = s.wram := rfl
@[simp] theorem State.setVram_hram : (s.setVram m).hram = s.hram := rfl
@[simp] theorem State.setVram_vram : (s.setVram m).vram = m := rfl
@[simp] theorem State.setVram_bootRom : (s.setVram m).bootRom = s.bootRom := rfl
@[simp] theorem State.setVram_bootMode : (s.setVram m).bootMode = s.bootMode := rfl
@[simp] theorem State.setVram_cart : (s.setVram m).cart = s.cart := rfl
@[simp] theorem State.setVram_ie : (s.setVram m).ie = s.ie := rfl
@[simp] theorem State.setVram_iflag : (s.setVram m).iflag = s.iflag := rfl
@[simp] theorem State.setVram_timer : (s.setVram m).timer = s.timer := rfl
@[simp] theorem State.setVram_ppu : (s.setVram m).ppu = s.ppu := rfl
@[simp] theorem State.setVram_joypad : (s.setVram m).joypad = s.joypad := rfl
@[simp] theorem State.setVram_queue : (s.setVram m).queue = s.queue := rfl
@[simp] theorem State.setVram_driver : (s.setVram m).driver = s.driver := rfl
end

section
variable (s : State) (m : Memory)
@[simp] theorem State.setBootRom_regs : (s.setBootRom m).regs = s.regs := rfl
@[simp] theorem State.setBootRom_ime : (s.setBootRom m).ime = s.ime := rfl
@[simp] theorem State.setBootRom_history : (s.setBootRom m).history = s.history := rfl
@[simp] theorem State.setBootRom_status : (s.setBootRom m).status = s.status := rfl
@[simp] theorem State.setBootRom_wram : (s.setBootRom m).wram = s.wram := rfl
@[simp] theorem State.setBootRom_hram : (s.setBootRom m).hram = s.hram := rfl
@[simp] theorem State.setBootRom_vram : (s.setBootRom m).vram = s.vram := rfl
@[simp] theorem State.setBootRom_bootRom : (s.setBootRom m).bootRom = m := rfl
@[simp] theorem State.setBootRom_bootMode : (s.setBootRom m).bootMode = s.bootMode := rfl
@[simp] theorem State.setBootRom_cart : (s.setBootRom m).cart = s.cart := rfl
@[simp] theorem State.setBootRom_ie : (s.setBootRom m).ie = s.ie := rfl
@[simp] theorem State.setBootRom_iflag : (s.setBootRom m).iflag = s.iflag := rfl
@[simp] theorem State.setBootRom_timer : (s.setBootRom m).timer = s.timer := rfl
@[simp] theorem State.setBootRom_ppu : (s.setBootRom m).ppu = s.ppu := rfl
@[simp] theorem State.setBootRom_joypad : (s.setBootRom m).joypad = s.joypad := rfl
@[simp] theorem State.setBootRom_queue : (s.setBootRom m).queue = s.queue := rfl
@[simp] theorem State.setBootRom_driver : (s.setBootRom m).driver = s.driver := rfl
end

section
variable (s : State) (b : Bool)
@[simp] theorem State.setBootMode_regs : (s.setBootMode b).regs = s.regs := rfl
@[simp] theorem State.setBootMode_ime : (s.setBootMode b).ime = s.ime := rfl
@[simp] theorem State.setBootMode_history : (s.setBootMode b).history = s.history := rfl
@[simp] theorem State.setBootMode_status : (s.setBootMode b).status = s.status := rfl
@[simp] theorem State.setBootMode_wram : (s.setBootMode b).wram = s.wram := rfl
@[simp] theorem State.setBootMode_hram : (s.setBootMode b).hram = s.hram := rfl
@[simp] theorem State.setBootMode_vram : (s.setBootMode b).vram = s.vram := rfl
@[simp] theorem State.setBootMode_bootRom : (s.setBootMode b).bootRom = s.bootRom := rfl
@[simp] theorem State.setBootMode_bootMode : (s.setBootMode b).bootMode = b := rfl
@[simp] theorem State.setBootMode_cart : (s.setBootMode b).cart = s.cart := rfl
@[simp] theorem State.setBootMode_ie : (s.setBootMode b).ie = s.ie := rfl
@[simp] theorem State.setBootMode_iflag : (s.setBootMode b).iflag = s.iflag := rfl
@[simp] theorem State.setBootMode_timer : (s.setBootMode b).timer = s.timer := rfl
@[simp] theorem State.setBootMode_ppu : (s.setBootMode b).ppu = s.ppu := rfl
@[simp] theorem State.setBootMode_joypad : (s.setBootMode b).joypad = s.joypad := rfl
@[simp] theorem State.setBootMode_queue : (s.setBootMode b).queue = s.queue := rfl
@[simp] theorem State.setBootMode_driver : (s.setBootMode b).driver = s.driver := rfl
end

section
variable (s : State) (c : Cartridge)
@[simp] theorem State.setCart_regs : (s.setCart c).regs = s.regs := rfl
@[simp] theorem State.setCart_ime : (s.setCart c).ime = s.ime := rfl
@[simp] theorem State.setCart_history : (s.setCart c).history = s.history := rfl
@[simp] theorem State.setCart_status : (s.setCart c).status = s.status := rfl
@[simp] theorem State.setCart_wram : (s.setCart c).wram = s.wram := rfl
@[simp] theorem State.setCart_hram : (s.setCart c).hram = s.hram := rfl
@[simp] theorem State.setCart_vram : (s.setCart c).vram = s.vram := rfl
@[simp] theorem State.setCart_bootRom : (s.setCart c).bootRom = s.bootRom := rfl
@[simp] theorem State.setCart_bootMode : (s.setCart c).bootMode = s.bootMode := rfl
@[simp] theorem State.setCart_cart : (s.setCart c).cart = c := rfl
@[simp] theorem State.setCart_ie : (s.setCart c).ie = s.ie := rfl
@[simp] theorem State.setCart_iflag : (s.setCart c).iflag = s.iflag := rfl
@[simp] theorem State.setCart_timer : (s.setCart c).timer = s.timer := rfl
@[simp] theorem State.setCart_ppu : (s.setCart c).ppu = s.ppu := rfl
@[simp] theorem State.setCart_joypad : (s.setCart c).joypad = s.joypad := rfl
@[simp] theorem State.setCart_queue : (s.setCart c).queue = s.queue := rfl
@[simp] theorem State.setCart_driver : (s.setCart c).driver = s.driver := rfl
end

section
variable (s : State) (v : Byte)
@[simp] theorem State.setIe_regs : (s.setIe v).regs = s.regs := rfl
@[simp] theorem State.setIe_ime : (s.setIe v).ime = s.ime := rfl
@[simp] theorem State.setIe_history : (s.setIe v).history = s.history := rfl
@[simp] theorem State.setIe_status : (s.setIe v).status = s.status := rfl
@[simp] theorem State.setIe_wram : (s.setIe v).wram = s.wram := rfl
@[simp] theorem State.setIe_hram : (s.setIe v).hram = s.hram := rfl
@[simp] theorem State.setIe_vram : (s.setIe v).vram = s.vram := rfl
@[simp] theorem State.setIe_bootRom : (s.setIe v).bootRom = s.bootRom := rfl
@[simp] theorem State.setIe_bootMode : (s.setIe v).bootMode = s.bootMode := rfl
@[simp] theorem State.setIe_cart : (s.setIe v).cart = s.cart := rfl
@[simp] theorem State.setIe_ie : (s.setIe v).ie = v := rfl
@[simp] theorem State.setIe_iflag : (s.setIe v).iflag = s.iflag := rfl
@[simp] theorem State.setIe_timer : (s.setIe v).timer = s.timer := rfl
@[simp] theorem State.setIe_ppu : (s.setIe v).ppu = s.ppu := rfl
@[simp] theorem State.setIe_joypad : (s.setIe v).joypad = s.joypad := rfl
@[simp] theorem State.setIe_queue : (s.setIe v).queue = s.queue := rfl
@[simp] theorem State.setIe_driver : (s.setIe v).driver = s.driver := rfl
end

section
variable (s : State) (v : Byte)
@[simp] theorem State.setIf_regs : (s.setIf v).regs = s.regs := rfl
@[simp] theorem State.setIf_ime : (s.setIf v).ime = s.ime := rfl
@[simp] theorem State.setIf_history : (s.setIf v).history = s.history := rfl
@[simp] theorem State.setIf_status : (s.setIf v).status = s.status := rfl
@[simp] theorem State.setIf_wram : (s.setIf v).wram = s.wram := rfl
@[simp] theorem State.setIf_hram : (s.setIf v).hram = s.hram := rfl
@[simp] theorem State.setIf_vram : (s.setIf v).vram = s.vram := rfl
@[simp] theorem State.setIf_bootRom : (s.setIf v).bootRom = s.bootRom := rfl
@[simp] theorem State.setIf_bootMode : (s.setIf v).bootMode = s.bootMode := rfl
@[simp] theorem State.setIf_cart : (s.setIf v).cart = s.cart := rfl
@[simp] theorem State.setIf_ie : (s.setIf v).ie = s.ie := rfl
@[simp] theorem State.setIf_iflag : (s.setIf v).iflag = v := rfl
@[simp] theorem State.setIf_timer : (s.setIf v).timer = s.timer := rfl
@[simp] theorem State.setIf_ppu : (s.setIf v).ppu = s.ppu := rfl
@[simp] theorem State.setIf_joypad : (s.setIf v).joypad = s.joypad := rfl
@[simp] theorem State.setIf_queue : (s.setIf v).queue = s.queue := rfl
@[simp] theorem State.setIf_driver : (s.setIf v).driver = s.driver := rfl
end

section
variable (s : State) (x : Timer)
@[simp] theorem State.setTimer_regs : (s.setTimer x).regs = s.regs := rfl
@[simp] theorem State.setTimer_ime : (s.setTimer x).ime = s.ime := rfl
@[simp] theorem State.setTimer_history : (s.setTimer x).history = s.history := rfl
@[simp] theorem State.setTimer_status : (s.setTimer x).status = s.status := rfl
@[simp] theorem State.setTimer_wram : (s.setTimer x).wram = s.wram := rfl
@[simp] theorem State.setTimer_hram : (s.setTimer x).hram = s.hram := rfl
@[simp] theorem State.setTimer_vram : (s.setTimer x).vram = s.vram := rfl
@[simp] theorem State.setTimer_bootRom : (s.setTimer x).bootRom = s.bootRom := rfl
@[simp] theorem State.setTimer_bootMode : (s.setTimer x).bootMode = s.bootMode := rfl
@[simp] theorem State.setTimer_cart : (s.setTimer x).cart = s.cart := rfl
@[simp] theorem State.setTimer_ie : (s.setTimer x).ie = s.ie := rfl
@[simp] theorem State.setTimer_iflag : (s.setTimer x).iflag = s.iflag := rfl
@[simp] theorem State.setTimer_timer : (s.setTimer x).timer = x := rfl
@[simp] theorem State.setTimer_ppu : (s.setTimer x).ppu = s.ppu := rfl
@[simp] theorem State.setTimer_joypad : (s.setTimer x).joypad = s.joypad := rfl
@[simp] theorem State.setTimer_queue : (s.setTimer x).queue = s.queue := rfl
@[simp] theorem State.setTimer_driver : (s.setTimer x).driver = s.driver := rfl
end

section
variable (s : State) (p : Ppu)
@[simp] theorem State.setPpu_regs : (s.setPpu p).regs = s.regs := rfl
@[simp] theorem State.setPpu_ime : (s.setPpu p).ime = s.ime := rfl
@[simp] theorem State.setPpu_history : (s.setPpu p).history = s.history := rfl
@[simp] theorem State.setPpu_status : (s.setPpu p).status = s.status := rfl
@[simp] theorem State.setPpu_wram : (s.setPpu p).wram = s.wram := rfl
@[simp] theorem State.setPpu_hram : (s.setPpu p).hram = s.hram := rfl
@[simp] theorem State.setPpu_vram : (s.setPpu p).vram = s.vram := rfl
@[simp] theorem State.setPpu_bootRom : (s.setPpu p).bootRom = s.bootRom := rfl
@[simp] theorem State.setPpu_bootMode : (s.setPpu p).bootMode = s.bootMode := rfl
@[simp] theorem State.setPpu_cart : (s.setPpu p).cart = s.cart := rfl
@[simp] theorem State.setPpu_ie : (s.setPpu p).ie = s.ie := rfl
@[simp] theorem State.setPpu_iflag : (s.setPpu p).iflag = s.iflag := rfl
@[simp] theorem State.setPpu_timer : (s.setPpu p).timer = s.timer := rfl
@[simp] theorem State.setPpu_ppu : (s.setPpu p).ppu = p := rfl
@[simp] theorem State.setPpu_joypad : (s.setPpu p).joypad = s.joypad := rfl
@[simp] theorem State.setPpu_queue : (s.setPpu p).queue = s.queue := rfl
@[simp] theorem State.setPpu_driver : (s.setPpu p).driver = s.driver := rfl
end

section
variable (s : State) (j : Joypad)
@[simp] theorem State.setJoypad_regs : (s.setJoypad j).regs = s.regs := rfl
@[simp] theorem State.setJoypad_ime : (s.setJoypad j).ime = s.ime := rfl
@[simp] theorem State.setJoypad_history : (s.setJoypad j).history = s.history := rfl
@[simp] theorem State.setJoypad_status : (s.setJoypad j).status = s.status := rfl
@[simp] theorem State.setJoypad_wram : (s.setJoypad j).wram = s.wram := rfl
@[simp] theorem State.setJoypad_hram : (s.setJoypad j).hram = s.hram := rfl
@[simp] theorem State.setJoypad_vram : (s.setJoypad j).vram = s.vram := rfl
@[simp] theorem State.setJoypad_bootRom : (s.setJoypad j).bootRom = s.bootRom := rfl
@[simp] theorem State.setJoypad_bootMode : (s.setJoypad j).bootMode = s.bootMode := rfl
@[simp] theorem State.setJoypad_cart : (s.setJoypad j).cart = s.cart := rfl
@[simp] theorem State.setJoypad_ie : (s.setJoypad j).ie = s.ie := rfl
@[simp] theorem State.setJoypad_iflag : (s.setJoypad j).iflag = s.iflag := rfl
@[simp] theorem State.setJoypad_timer : (s.setJoypad j).timer = s.timer := rfl
@[simp] theorem State.setJoypad_ppu : (s.setJoypad j).ppu = s.ppu := rfl
@[simp] theorem State.setJoypad_joypad : (s.setJoypad j).joypad = j := rfl
@[simp] theorem State.setJoypad_queue : (s.setJoypad j).queue = s.queue := rfl
@[simp] theorem State.setJoypad_driver : (s.setJoypad j).driver = s.driver := rfl
end

section
variable (s : State) (q : List Action)
@[simp] theorem State.setQueue_regs : (s.setQueue q).regs = s.regs := rfl
@[simp] theorem State.setQueue_ime : (s.setQueue q).ime = s.ime := rfl
@[simp] theorem State.setQueue_history : (s.setQueue q).history = s.history := rfl
@[simp] theorem State.setQueue_status : (s.setQueue q).status = s.status := rfl
@[simp] theorem State.setQueue_wram : (s.setQueue q).wram = s.wram := rfl
@[simp] theorem State.setQueue_hram : (s.setQueue q).hram = s.hram := rfl
@[simp] theorem State.setQueue_vram : (s.setQueue q).vram = s.vram := rfl
@[simp] theorem State.setQueue_bootRom : (s.setQueue q).bootRom = s.bootRom := rfl
@[simp] theorem State.setQueue_bootMode : (s.setQueue q).bootMode = s.bootMode := rfl
@[simp] theorem State.setQueue_cart : (s.setQueue q).cart = s.cart := rfl
@[simp] theorem State.setQueue_ie : (s.setQueue q).ie = s.ie := rfl
@[simp] theorem State.setQueue_iflag : (s.setQueue q).iflag = s.iflag := rfl
@[simp] theorem State.setQueue_timer : (s.setQueue q).timer = s.timer := rfl
@[simp] theorem State.setQueue_ppu : (s.setQueue q).ppu = s.ppu := rfl
@[simp] theorem State.setQueue_joypad : (s.setQueue q).joypad = s.joypad := rfl
@[simp] theorem State.setQueue_queue : (s.setQueue q).queue = q := rfl
@[simp] theorem State.setQueue_driver : (s.setQueue q).driver = s.driver := rfl
end

section
variable (s : State) (d : Driver)
@[simp] theorem State.setDriver_regs : (s.setDriver d).regs = s.regs := rfl
@[simp] theorem State.setDriver_ime : (s.setDriver d).ime = s.ime := rfl
@[simp] theorem State.setDriver_history : (s.setDriver d).history = s.history := rfl
@[simp] theorem State.setDriver_status : (s.setDriver d).status = s.status := rfl
@[simp] theorem State.setDriver_wram : (s.setDriver d).wram = s.wram := rfl
@[simp] theorem State.setDriver_hram : (s.setDriver d).hram = s.hram := rfl
@[simp] theorem State.setDriver_vram : (s.setDriver d).vram = s.vram := rfl
@[simp] theorem State.setDriver_bootRom : (s.setDriver d).bootRom = s.bootRom := rfl
@[simp] theorem State.setDriver_bootMode : (s.setDriver d).bootMode = s.bootMode := rfl
@[simp] theorem State.setDriver_cart : (s.setDriver d).cart = s.cart := rfl
@[simp] theorem State.setDriver_ie : (s.setDriver d).ie = s.ie := rfl
@[simp] theorem State.setDriver_iflag : (s.setDriver d).iflag = s.iflag := rfl
@[simp] theorem State.setDriver_timer : (s.setDriver d).timer = s.timer := rfl
@[simp] theorem State.setDriver_ppu : (s.setDriver d).ppu = s.ppu := rfl
@[simp] theorem State.setDriver_joypad : (s.setDriver d).joypad = s.joypad := rfl
@[simp] theorem State.setDriver_queue : (s.setDriver d).queue = s.queue := rfl
@[simp] theorem State.setDriver_driver : (s.setDriver d).driver = d := rfl
end

section
variable (s : State) (es : List InputEvent)
@[simp] theorem State.applyInputs_regs : (s.applyInputs es).regs = s.regs := rfl
@[simp] theorem State.applyInputs_ime : (s.applyInputs es).ime = s.ime := rfl
@[simp] theorem State.applyInputs_history : (s.applyInputs es).history = s.history := rfl
@[simp] theorem State.applyInputs_status : (s.applyInputs es).status = s.status := rfl
@[simp] theorem State.applyInputs_wram : (s.applyInputs es).wram = s.wram := rfl
@[simp] theorem State.applyInputs_hram : (s.applyInputs es).hram = s.hram := rfl
@[simp] theorem State.applyInputs_vram : (s.applyInputs es).vram = s.vram := rfl
@[simp] theorem State.applyInputs_bootRom : (s.applyInputs es).bootRom = s.bootRom := rfl
@[simp] theorem State.applyInputs_bootMode : (s.applyInputs es).bootMode = s.bootMode := rfl
@[simp] theorem State.applyInputs_cart : (s.applyInputs es).cart = s.cart := rfl
@[simp] theorem State.applyInputs_ie : (s.applyInputs es).ie = s.ie := rfl
@[simp] theorem State.applyInputs_iflag : (s.applyInputs es).iflag = s.iflag := rfl
@[simp] theorem State.applyInputs_timer : (s.applyInputs es).timer = s.timer := rfl
@[simp] theorem State.applyInputs_ppu : (s.applyInputs es).ppu = s.ppu := rfl
@[simp] theorem State.applyInputs_joypad : (s.applyInputs es).joypad = es.foldl Joypad.input s.joypad := rfl
@[simp] theorem State.applyInputs_queue : (s.applyInputs es).queue = s.queue := rfl
@[simp] theorem State.applyInputs_driver : (s.applyInputs es).driver = s.driver := rfl
@[simp] theorem State.applyInputs_nil : s.applyInputs [] = s := rfl
@[simp] theorem State.applyInputs_cons (e : InputEvent) :
    s.applyInputs (e :: es) = (s.setJoypad (s.joypad.input e)).applyInputs es := rfl
end

section
variable (r : Regs) (v : Byte) (w : Word)
@[simp] theorem Regs.setF_a : (r.setF v).a = r.a := rfl
@[simp] theorem Regs.setF_f : (r.setF v).f = v &&& 0xF0 := rfl
@[simp] theorem Regs.setF_b : (r.setF v).b = r.b := rfl
@[simp] theorem Regs.setF_c : (r.setF v).c = r.c := rfl
@[simp] theorem Regs.setF_d : (r.setF v).d = r.d := rfl
@[simp] theorem Regs.setF_e : (r.setF v).e = r.e := rfl
@[simp] theorem Regs.setF_h : (r.setF v).h = r.h := rfl
@[simp] theorem Regs.setF_l : (r.setF v).l = r.l := rfl
@[simp] theorem Regs.setF_sp : (r.setF v).sp = r.sp := rfl
@[simp] theorem Regs.setF_pc : (r.setF v).pc = r.pc := rfl
@[simp] theorem Regs.setSp_a : (r.setSp w).a = r.a := rfl
@[simp] theorem Regs.setSp_f : (r.setSp w).f = r.f := rfl
@[simp] theorem Regs.setSp_b : (r.setSp w).b = r.b := rfl
@[simp] theorem Regs.setSp_c : (r.setSp w).c = r.c := rfl
@[simp] theorem Regs.setSp_d : (r.setSp w).d = r.d := rfl
@[simp] theorem Regs.setSp_e : (r.setSp w).e = r.e := rfl
@[simp] theorem Regs.setSp_h : (r.setSp w).h = r.h := rfl
@[simp] theorem Regs.setSp_l : (r.setSp w).l = r.l := rfl
@[simp] theorem Regs.setSp_sp : (r.setSp w).sp = w := rfl
@[simp] theorem Regs.setSp_pc : (r.setSp w).pc = r.pc := rfl
@[simp] theorem Regs.setPc_a : (r.setPc w).a = r.a := rfl
@[simp] theorem Regs.setPc_f : (r.setPc w).f = r.f := rfl
@[simp] theorem Regs.setPc_b : (r.setPc w).b = r.b := rfl
@[simp] theorem Regs.setPc_c : (r.setPc w).c = r.c := rfl
@[simp] theorem Regs.setPc_d : (r.setPc w).d = r.d := rfl
@[simp] theorem Regs.setPc_e : (r.setPc w).e = r.e := rfl
@[simp] theorem Regs.setPc_h : (r.setPc w).h = r.h := rfl
@[simp] theorem Regs.setPc_l : (r.setPc w).l = r.l := rfl
@[simp] theorem Regs.setPc_sp : (r.setPc w).sp = r.sp := rfl
@[simp] theorem Regs.setPc_pc : (r.setPc w).pc = w := rfl
@[simp] theorem Regs.set8_a_a : (r.set8 .a v).a = v := rfl
@[simp] theorem Regs.set8_a_f : (r.set8 .a v).f = r.f := rfl
@[simp] theorem Regs.set8_a_b : (r.set8 .a v).b = r.b := rfl
@[simp] theorem Regs.set8_a_c : (r.set8 .a v).c = r.c := rfl
@[simp] theorem Regs.set8_a_d : (r.set8 .a v).d = r.d := rfl
@[simp] theorem Regs.set8_a_e : (r.set8 .a v).e = r.e := rfl
@[simp] theorem Regs.set8_a_h : (r.set8 .a v).h = r.h := rfl
@[simp] theorem Regs.set8_a_l : (r.set8 .a v).l = r.l := rfl
@[simp] theorem Regs.set8_a_sp : (r.set8 .a v).sp = r.sp := rfl
@[simp] theorem Regs.set8_a_pc : (r.set8 .a v).pc = r.pc := rfl
@[simp] theorem Regs.set8_b_a : (r.set8 .b v).a = r.a := rfl
@[simp] theorem Regs.set8_b_f : (r.set8 .b v).f = r.f := rfl
@[simp] theorem Regs.set8_b_b : (r.set8 .b v).b = v := rfl
@[simp] theorem Regs.set8_b_c : (r.set8 .b v).c = r.c := rfl
@[simp] theorem Regs.set8_b_d : (r.set8 .b v).d = r.d := rfl
@[simp] theorem Regs.set8_b_e : (r.set8 .b v).e = r.e := rfl
@[simp] theorem Regs.set8_b_h : (r.set8 .b v).h = r.h := rfl
@[simp] theorem Regs.set8_b_l : (r.set8 .b v).l = r.l := rfl
@[simp] theorem Regs.set8_b_sp : (r.set8 .b v).sp = r.sp := rfl
@[simp] theorem Regs.set8_b_pc : (r.set8 .b v).pc = r.pc := rfl
@[simp] theorem Regs.set8_c_a : (r.set8 .c v).a = r.a := rfl
@[simp] theorem Regs.set8_c_f : (r.set8 .c v).f = r.f := rfl
@[simp] theorem Regs.set8_c_b : (r.set8 .c v).b = r.b := rfl
@[simp] theorem Regs.set8_c_c : (r.set8 .c v).c = v := rfl
@[simp] theorem Regs.set8_c_d : (r.set8 .c v).d = r.d := rfl
@[simp] theorem Regs.set8_c_e : (r.set8 .c v).e = r.e := rfl
@[simp] theorem Regs.set8_c_h : (r.set8 .c v).h = r.h := rfl
@[simp] theorem Regs.set8_c_l : (r.set8 .c v).l = r.l := rfl
@[simp] theorem Regs.set8_c_sp : (r.set8 .c v).sp = r.sp := rfl
@[simp] theorem Regs.set8_c_pc : (r.set8 .c v).pc = r.pc := rfl
@[simp] theorem Regs.set8_d_a : (r.set8 .d v).a = r.a := rfl
@[simp] theorem Regs.set8_d_f : (r.set8 .d v).f = r.f := rfl
@[simp] theorem Regs.set8_d_b : (r.set8 .d v).b = r.b := rfl
@[simp] theorem Regs.set8_d_c : (r.set8 .d v).c = r.c := rfl
@[simp] theorem Regs.set8_d_d : (r.set8 .d v).d = v := rfl
@[simp] theorem Regs.set8_d_e : (r.set8 .d v).e = r.e := rfl
@[simp] theorem Regs.set8_d_h : (r.set8 .d v).h = r.h := rfl
@[simp] theorem Regs.set8_d_l : (r.set8 .d v).l = r.l := rfl
@[simp] theorem Regs.set8_d_sp : (r.set8 .d v).sp = r.sp := rfl
@[simp] theorem Regs.set8_d_pc : (r.set8 .d v).pc = r.pc := rfl
@[simp] theorem Regs.set8_e_a : (r.set8 .e v).a = r.a := rfl
@[simp] theorem Regs.set8_e_f : (r.set8 .e v).f = r.f := rfl
@[simp] theorem Regs.set8_e_b : (r.set8 .e v).b = r.b := rfl
@[simp] theorem Regs.set8_e_c : (r.set8 .e v).c = r.c := rfl
@[simp] theorem Regs.set8_e_d : (r.set8 .e v).d = r.d := rfl
@[simp] theorem Regs.set8_e_e : (r.set8 .e v).e = v := rfl
@[simp] theorem Regs.set8_e_h : (r.set8 .e v).h = r.h := rfl
@[simp] theorem Regs.set8_e_l : (r.set8 .e v).l = r.l := rfl
@[simp] theorem Regs.set8_e_sp : (r.set8 .e v).sp = r.sp := rfl
@[simp] theorem Regs.set8_e_pc : (r.set8 .e v).pc = r.pc := rfl
@[simp] theorem Regs.set8_h_a : (r.set8 .h v).a = r.a := rfl
@[simp] theorem Regs.set8_h_f : (r.set8 .h v).f = r.f := rfl
@[simp] theorem Regs.set8_h_b : (r.set8 .h v).b = r.b := rfl
@[simp] theorem Regs.set8_h_c : (r.set8 .h v).c = r.c := rfl
@[simp] theorem Regs.set8_h_d : (r.set8 .h v).d = r.d := rfl
@[simp] theorem Regs.set8_h_e : (r.set8 .h v).e = r.e := rfl
@[simp] theorem Regs.set8_h_h : (r.set8 .h v).h = v := rfl
@[simp] theorem Regs.set8_h_l : (r.set8 .h v).l = r.l := rfl
@[simp] theorem Regs.set8_h_sp : (r.set8 .h v).sp = r.sp := rfl
@[simp] theorem Regs.set8_h_pc : (r.set8 .h v).pc = r.pc := rfl
@[simp] theorem Regs.set8_l_a : (r.set8 .l v).a = r.a := rfl
@[simp] theorem Regs.set8_l_f : (r.set8 .l v).f = r.f := rfl
@[simp] theorem Regs.set8_l_b : (r.set8 .l v).b = r.b := rfl
@[simp] theorem Regs.set8_l_c : (r.set8 .l v).c = r.c := rfl
@[simp] theorem Regs.set8_l_d : (r.set8 .l v).d = r.d := rfl
@[simp] theorem Regs.set8_l_e : (r.set8 .l v).e = r.e := rfl
@[simp] theorem Regs.set8_l_h : (r.set8 .l v).h = r.h := rfl
@[simp] theorem Regs.set8_l_l : (r.set8 .l v).l = v := rfl
@[simp] theorem Regs.set8_l_sp : (r.set8 .l v).sp = r.sp := rfl
@[simp] theorem Regs.set8_l_pc : (r.set8 .l v).pc = r.pc := rfl
@[simp] theorem Regs.setPair_bc_a : (r.setPair .bc w).a = r.a := rfl
@[simp] theorem Regs.setPair_bc_f : (r.setPair .bc w).f = r.f := rfl
@[simp] theorem Regs.setPair_bc_b : (r.setPair .bc w).b = hiByte w := rfl
@[simp] theorem Regs.setPair_bc_c : (r.setPair .bc w).c = loByte w := rfl
@[simp] theorem Regs.setPair_bc_d : (r.setPair .bc w).d = r.d := rfl
@[simp] theorem Regs.setPair_bc_e : (r.setPair .bc w).e = r.e := rfl
@[simp] theorem Regs.setPair_bc_h : (r.setPair .bc w).h = r.h := rfl
@[simp] theorem Regs.setPair_bc_l : (r.setPair .bc w).l = r.l := rfl
@[simp] theorem Regs.setPair_bc_sp : (r.setPair .bc w).sp = r.sp := rfl
@[simp] theorem Regs.setPair_bc_pc : (r.setPair .bc w).pc = r.pc := rfl
@[simp] theorem Regs.setPair_de_a : (r.setPair .de w).a = r.a := rfl
@[simp] theorem Regs.setPair_de_f : (r.setPair .de w).f = r.f := rfl
@[simp] theorem Regs.setPair_de_b : (r.setPair .de w).b = r.b := rfl
@[simp] theorem Regs.setPair_de_c : (r.setPair .de w).c = r.c := rfl
@[simp] theorem Regs.setPair_de_d : (r.setPair .de w).d = hiByte w := rfl
@[simp] theorem Regs.setPair_de_e : (r.setPair .de w).e = loByte w := rfl
@[simp] theorem Regs.setPair_de_h : (r.setPair .de w).h = r.h := rfl
@[simp] theorem Regs.setPair_de_l : (r.setPair .de w).l = r.l := rfl
@[simp] theorem Regs.setPair_de_sp : (r.setPair .de w).sp = r.sp := rfl
@[simp] theorem Regs.setPair_de_pc : (r.setPair .de w).pc = r.pc := rfl
@[simp] theorem Regs.setPair_hl_a : (r.setPair .hl w).a = r.a := rfl
@[simp] theorem Regs.setPair_hl_f : (r.setPair .hl w).f = r.f := rfl
@[simp] theorem Regs.setPair_hl_b : (r.setPair .hl w).b = r.b := rfl
@[simp] theorem Regs.setPair_hl_c : (r.setPair .hl w).c = r.c := rfl
@[simp] theorem Regs.setPair_hl_d : (r.setPair .hl w).d = r.d := rfl
@[simp] theorem Regs.setPair_hl_e : (r.setPair .hl w).e = r.e := rfl
@[simp] theorem Regs.setPair_hl_h : (r.setPair .hl w).h = hiByte w := rfl
@[simp] theorem Regs.setPair_hl_l : (r.setPair .hl w).l = loByte w := rfl
@[simp] theorem Regs.setPair_hl_sp : (r.setPair .hl w).sp = r.sp := rfl
@[simp] theorem Regs.setPair_hl_pc : (r.setPair .hl w).pc = r.pc := rfl
@[simp] theorem Regs.setPair_sp_a : (r.setPair .sp w).a = r.a := rfl
@[simp] theorem Regs.setPair_sp_f : (r.setPair .sp w).f = r.f := rfl
@[simp] theorem Regs.setPair_sp_b : (r.setPair .sp w).b = r.b := rfl
@[simp] theorem Regs.setPair_sp_c : (r.setPair .sp w).c = r.c := rfl
@[simp] theorem Regs.setPair_sp_d : (r.setPair .sp w).d = r.d := rfl
@[simp] theorem Regs.setPair_sp_e : (r.setPair .sp w).e = r.e := rfl
@[simp] theorem Regs.setPair_sp_h : (r.setPair .sp w).h = r.h := rfl
@[simp] theorem Regs.setPair_sp_l : (r.setPair .sp w).l = r.l := rfl
@[simp] theorem Regs.setPair_sp_sp : (r.setPair .sp w).sp = w := rfl
@[simp] theorem Regs.setPair_sp_pc : (r.setPair .sp w).pc = r.pc := rfl
end

section
variable (r : Regs) (x y : Reg8) (p : Pair) (q : StackPair) (v : Byte) (w : Word)
@[simp] theorem Regs.set8_f : (r.set8 x v).f = r.f := by cases x <;> rfl
@[simp] theorem Regs.set8_sp : (r.set8 x v).sp = r.sp := by cases x <;> rfl
@[simp] theorem Regs.set8_pc : (r.set8 x v).pc = r.pc := by cases x <;> rfl
@[simp] theorem Regs.setPair_f : (r.setPair p w).f = r.f := by cases p <;> rfl
@[simp] theorem Regs.setPair_pc : (r.setPair p w).pc = r.pc := by cases p <;> rfl
@[simp] theorem Regs.setStackPair_sp : (r.setStackPair q w).sp = r.sp := by cases q <;> rfl
@[simp] theorem Regs.setStackPair_pc : (r.setStackPair q w).pc = r.pc := by cases q <;> rfl
@[simp] theorem Regs.get8_setF : (r.setF v).get8 x = r.get8 x := by cases x <;> rfl
@[simp] theorem Regs.get8_setSp : (r.setSp w).get8 x = r.get8 x := by cases x <;> rfl
@[simp] theorem Regs.get8_setPc : (r.setPc w).get8 x = r.get8 x := by cases x <;> rfl
@[simp] theorem Regs.get8_set8_self : (r.set8 x v).get8 x = v := by cases x <;> rfl
theorem Regs.get8_set8_ne (h : y ≠ x) : (r.set8 x v).get8 y = r.get8 y := by
  cases x <;> cases y <;> first | rfl | exact absurd rfl h
theorem Regs.get8_set8 : (r.set8 x v).get8 y = if y = x then v else r.get8 y := by
  split
  case isTrue h => rw [h, Regs.get8_set8_self]
  case isFalse h => rw [Regs.get8_set8_ne r x y v h]
@[simp] theorem Regs.setFlags_f (z n h c : Bool) : (r.setFlags z n h c).f = packFlags z n h c := by
  cases z <;> cases n <;> cases h <;> cases c <;> rfl
@[simp] theorem Regs.get8_setFlags (z n h c : Bool) : (r.setFlags z n h c).get8 x = r.get8 x := by cases x <;> rfl
@[simp] theorem Regs.setFlags_sp (z n h c : Bool) : (r.setFlags z n h c).sp = r.sp := rfl
@[simp] theorem Regs.setFlags_pc (z n h c : Bool) : (r.setFlags z n h c).pc = r.pc := rfl
end

/-! ## The updates of Ops.lean and Flags.lean, as updates of the register file -/

section
variable (s : State) (x : Reg8) (p : Pair) (q : StackPair) (v : Byte) (w : Word)
theorem State.setReg8_eq : s.setReg8 x v = s.setRegs (s.regs.set8 x v) := rfl
theorem State.setPair_eq : s.setPair p w = s.setRegs (s.regs.setPair p w) := rfl
theorem State.setStackPair_eq : s.setStackPair q w = s.setRegs (s.regs.setStackPair q w) := rfl
theorem State.setSp_eq : s.setSp w = s.setRegs (s.regs.setSp w) := rfl
theorem State.setPc_eq : s.setPc w = s.setRegs (s.regs.setPc w) := rfl
theorem State.setFlags_eq (z n h c : Bool) : s.setFlags z n h c = s.setRegs (s.regs.setFlags z n h c) := rfl
@[simp] theorem State.setRegs_setRegs (r r' : Regs) : (s.setRegs r).setRegs r' = s.setRegs r' := rfl
@[simp] theorem State.setRegs_self : s.setRegs s.regs = s := rfl
end

/-! ## Flags -/

/-- F[3:0] of packed flags is zero (R101). -/
theorem packFlags_low (z n h c : Bool) : packFlags z n h c &&& 0x0F = 0 := by
  cases z <;> cases n <;> cases h <;> cases c <;> rfl

/-- A masked byte has zero low bits (R101). -/
theorem masked_low (v : Byte) : v &&& 0xF0 &&& 0x0F = 0 := by
  rw [BitVec.and_assoc]; exact BitVec.and_zero

/-- With F[3:0] zero, reading F masks nothing (R101). -/
theorem Regs.readF_eq {r : Regs} (h : r.f &&& 0x0F = 0) : r.readF = r.f := by
  revert h; unfold Regs.readF; generalize r.f = f; revert f; decide

end Sys2Proof.Machine
end

