-- ==== Sys2Proof/Laws/Bus.lean ====
section
/-! SUPPORT. The laws of the mappers, of the memory-mapped registers and of the bus: where an address goes, everything a
store can do, and that a store keeps the invariant. -/

namespace Sys2Proof.Machine

/-! ## Routing (R201) -/

section
variable {m : Bool} {a : Word}

theorem route_bootRom (h : a.toNat < 0x100) : route true a = .bootRom := by simp [route, h]

theorem route_rom (h : m = false ∨ 0x100 ≤ a.toNat) (h2 : a.toNat < 0x8000) : route m a = .mapper := by
  have : ¬ (a.toNat < 0x100 ∧ m = true) := by
    rintro ⟨h3, h4⟩
    rcases h with h | h
    · rw [h] at h4; cases h4
    · omega
  simp only [route, this, h2, if_false, if_true]

theorem route_vram (h : 0x8000 ≤ a.toNat) (h2 : a.toNat < 0xA000) : route m a = .vram := by
  simp only [route, h2, if_true, show ¬ (a.toNat < 0x100 ∧ m = true) by omega, show ¬ a.toNat < 0x8000 by omega, if_false]

theorem route_eram (h : 0xA000 ≤ a.toNat) (h2 : a.toNat < 0xC000) : route m a = .mapper := by
  simp only [route, h2, if_true, show ¬ (a.toNat < 0x100 ∧ m = true) by omega, show ¬ a.toNat < 0x8000 by omega,
    show ¬ a.toNat < 0xA000 by omega, if_false]

theorem route_wram (h : 0xC000 ≤ a.toNat) (h2 : a.toNat < 0xE000) : route m a = .wram := by
  simp only [route, h2, if_true, show ¬ (a.toNat < 0x100 ∧ m = true) by omega, show ¬ a.toNat < 0x8000 by omega,
    show ¬ a.toNat < 0xA000 by omega, show ¬ a.toNat < 0xC000 by omega, if_false]

theorem route_echo (h : 0xE000 ≤ a.toNat) (h2 : a.toNat < 0xFF00) : route m a = .unlisted := by
  simp only [route, h2, if_true, show ¬ (a.toNat < 0x100 ∧ m = true) by omega, show ¬ a.toNat < 0x8000 by omega,
    show ¬ a.toNat < 0xA000 by omega, show ¬ a.toNat < 0xC000 by omega, show ¬ a.toNat < 0xE000 by omega, if_false]

theorem route_page (h : 0xFF00 ≤ a.toNat) (h2 : a.toNat < 0xFF80) :
    route m a = match ioRegAt a.toNat with
      | some r => .io r
      | none => .unlisted := by
  simp only [route, h2, if_true, show ¬ (a.toNat < 0x100 ∧ m = true) by omega, show ¬ a.toNat < 0x8000 by omega,
    show ¬ a.toNat < 0xA000 by omega, show ¬ a.toNat < 0xC000 by omega, show ¬ a.toNat < 0xE000 by omega,
    show ¬ a.toNat < 0xFF00 by omega, if_false] <;> rfl

theorem route_hram (h : 0xFF80 ≤ a.toNat) (h2 : a.toNat < 0xFFFF) : route m a = .hram := by
  simp only [route, h2, if_true, show ¬ (a.toNat < 0x100 ∧ m = true) by omega, show ¬ a.toNat < 0x8000 by omega,
    show ¬ a.toNat < 0xA000 by omega, show ¬ a.toNat < 0xC000 by omega, show ¬ a.toNat < 0xE000 by omega,
    show ¬ a.toNat < 0xFF00 by omega, show ¬ a.toNat < 0xFF80 by omega, if_false]

/-- Where each address goes, as one case analysis. -/
theorem route_cases (m : Bool) (a : Word) :
    (m = true ∧ a.toNat < 0x100 ∧ route m a = .bootRom) ∨
    ((m = false ∨ 0x100 ≤ a.toNat) ∧ a.toNat < 0x8000 ∧ route m a = .mapper) ∨
    (0x8000 ≤ a.toNat ∧ a.toNat < 0xA000 ∧ route m a = .vram) ∨
    (0xA000 ≤ a.toNat ∧ a.toNat < 0xC000 ∧ route m a = .mapper) ∨
    (0xC000 ≤ a.toNat ∧ a.toNat < 0xE000 ∧ route m a = .wram) ∨
    (0xE000 ≤ a.toNat ∧ a.toNat < 0xFF80 ∧ route m a = .unlisted) ∨
    (∃ r, 0xFF00 ≤ a.toNat ∧ a.toNat < 0xFF80 ∧ ioRegAt a.toNat = some r ∧ route m a = .io r) ∨
    (0xFF80 ≤ a.toNat ∧ a.toNat < 0xFFFF ∧ route m a = .hram) ∨
    (a.toNat = 0xFFFF ∧ route m a = .ie) := by
  have ha := a.isLt
  by_cases h1 : a.toNat < 0x8000
  · by_cases h2 : m = true ∧ a.toNat < 0x100
    · exact .inl ⟨h2.1, h2.2, by rw [h2.1]; exact route_bootRom h2.2⟩
    · have h3 : m = false ∨ 0x100 ≤ a.toNat := by
        cases m
        · exact .inl rfl
        · exact .inr (Nat.le_of_not_lt fun h => h2 ⟨rfl, h⟩)
      exact .inr (.inl ⟨h3, h1, route_rom h3 h1⟩)
  refine .inr (.inr ?_)
  by_cases h2 : a.toNat < 0xA000
  · exact .inl ⟨by omega, h2, route_vram (by omega) h2⟩
  refine .inr ?_
  by_cases h3 : a.toNat < 0xC000
  · exact .inl ⟨by omega, h3, route_eram (by omega) h3⟩
  refine .inr ?_
  by_cases h4 : a.toNat < 0xE000
  · exact .inl ⟨by omega, h4, route_wram (by omega) h4⟩
  refine .inr ?_
  by_cases h5 : a.toNat < 0xFF00
  · exact .inl ⟨by omega, by omega, route_echo (by omega) h5⟩
  by_cases h6 : a.toNat < 0xFF80
  · have h7 := route_page (m := m) (by omega) h6
    cases h8 : ioRegAt a.toNat with
    | none => rw [h8] at h7; exact .inl ⟨by omega, h6, h7⟩
    | some r => rw [h8] at h7; exact .inr (.inl ⟨r, by omega, h6, rfl, h7⟩)
  refine .inr (.inr ?_)
  by_cases h7 : a.toNat < 0xFFFF
  · exact .inl ⟨by omega, h7, route_hram (by omega) h7⟩
  have h8 : a.toNat = 0xFFFF := by omega
  have : a = 0xFFFF := BitVec.eq_of_toNat_eq h8
  subst this
  exact .inr ⟨h8, by simp [route]⟩

end

/-- A memory-mapped register has one address. -/
theorem ioRegAt_inj {n k : Nat} {r : IoReg} (hn : ioRegAt n = some r) (hk : ioRegAt k = some r) : n = k := by
  unfold ioRegAt at hn hk
  split at hn <;> cases hn <;> (split at hk <;> first | rfl | cases hk)

theorem ioRegAt_bounds {n : Nat} {r : IoReg} (h : ioRegAt n = some r) : 0xFF00 ≤ n ∧ n < 0xFF80 := by
  unfold ioRegAt at h
  split at h <;> cases h <;> decide

/-! ## Reads and writes by address -/

section
variable (s : State) {a : Word} (v : Byte)

theorem busRead_io {r : IoReg} (h : ioRegAt a.toNat = some r) : busRead s a = .ok (ioRead s r) := by
  obtain ⟨h1, h2⟩ := ioRegAt_bounds h
  rw [busRead, route_page h1 h2, h]

theorem busWrite_io {r : IoReg} (h : ioRegAt a.toNat = some r) : busWrite s a v = .ok (ioWrite s r v) := by
  obtain ⟨h1, h2⟩ := ioRegAt_bounds h
  rw [busWrite, route_page h1 h2, h]

theorem busRead_ie : busRead s 0xFFFF = .ok s.ie := by
  have : route s.bootMode 0xFFFF = .ie := by simp [route]
  rw [busRead, this]

theorem busWrite_ie : busWrite s 0xFFFF v = .ok (s.setIe v) := by
  have : route s.bootMode 0xFFFF = .ie := by simp [route]
  rw [busWrite, this]

theorem busRead_vram (h : 0x8000 ≤ a.toNat) (h2 : a.toNat < 0xA000) :
    busRead s a = .ok (s.vram.read (a.toNat - 0x8000)) := by rw [busRead, route_vram h h2]

theorem busWrite_vram (h : 0x8000 ≤ a.toNat) (h2 : a.toNat < 0xA000) :
    busWrite s a v = .ok (s.setVram (s.vram.write (a.toNat - 0x8000) v)) := by rw [busWrite, route_vram h h2]

theorem busRead_wram (h : 0xC000 ≤ a.toNat) (h2 : a.toNat < 0xE000) :
    busRead s a = .ok (s.wram.read (a.toNat - 0xC000)) := by rw [busRead, route_wram h h2]

theorem busWrite_wram (h : 0xC000 ≤ a.toNat) (h2 : a.toNat < 0xE000) :
    busWrite s a v = .ok (s.setWram (s.wram.write (a.toNat - 0xC000) v)) := by rw [busWrite, route_wram h h2]

theorem busRead_hram (h : 0xFF80 ≤ a.toNat) (h2 : a.toNat < 0xFFFF) :
    busRead s a = .ok (s.hram.read (a.toNat - 0xFF80)) := by rw [busRead, route_hram h h2]

theorem busWrite_hram (h : 0xFF80 ≤ a.toNat) (h2 : a.toNat < 0xFFFF) :
    busWrite s a v = .ok (s.setHram (s.hram.write (a.toNat - 0xFF80) v)) := by rw [busWrite, route_hram h h2]

theorem busRead_unlisted (h : 0xE000 ≤ a.toNat) (h2 : a.toNat < 0xFF00) : busRead s a = .ok 0x00 := by
  rw [busRead, route_echo h h2]

theorem busWrite_unlisted (h : 0xE000 ≤ a.toNat) (h2 : a.toNat < 0xFF00) : busWrite s a v = .ok s := by
  rw [busWrite, route_echo h h2]

theorem busRead_noReg (h : 0xFF00 ≤ a.toNat) (h2 : a.toNat < 0xFF80) (hn : ioRegAt a.toNat = none) :
    busRead s a = .ok 0x00 := by rw [busRead, route_page h h2, hn]

theorem busWrite_noReg (h : 0xFF00 ≤ a.toNat) (h2 : a.toNat < 0xFF80) (hn : ioRegAt a.toNat = none) :
    busWrite s a v = .ok s := by rw [busWrite, route_page h h2, hn]

theorem busRead_mapper (h : (s.bootMode = false ∨ 0x100 ≤ a.toNat) ∧ a.toNat < 0x8000 ∨ 0xA000 ≤ a.toNat ∧ a.toNat < 0xC000) :
    busRead s a = mapperRead s.cart a := by
  rcases h with h | h
  · rw [busRead, route_rom h.1 h.2]
  · rw [busRead, route_eram h.1 h.2]

theorem busWrite_mapper (h : (s.bootMode = false ∨ 0x100 ≤ a.toNat) ∧ a.toNat < 0x8000 ∨ 0xA000 ≤ a.toNat ∧ a.toNat < 0xC000) :
    busWrite s a v = (mapperWrite s.cart a v).map s.setCart := by
  rcases h with h | h
  · rw [busWrite, route_rom h.1 h.2]
  · rw [busWrite, route_eram h.1 h.2]

end

/-! ## The mappers -/

/-- What a store through the mapper keeps of a cartridge (R113, R116, R117): all but the ERAM and the mapper's registers. -/
structure Cartridge.SameBut (c d : Cartridge) : Prop where
  rom : d.rom = c.rom
  header : d.header = c.header
  variant : d.mapper.variant = c.mapper.variant

/-- What a store through the mapper can do: write one byte of ERAM inside the array, or write the mapper's registers, no
bank register becoming 0 (R118, R119), or nothing. -/
theorem mapperWrite_cases {c d : Cartridge} {a : Word} {v : Byte} (h : mapperWrite c a v = .ok d) :
    (∃ off, off < c.eramLen ∧ 0x8000 ≤ a.toNat ∧ d = { c with eram := c.eram.write off v }) ∨
    (∃ m, m.variant = c.mapper.variant ∧ (c.mapper.BankNonzero → m.BankNonzero) ∧ d = { c with mapper := m }) := by
  have put : ∀ {off}, 0x8000 ≤ a.toNat → c.eramPut off v a = .ok d →
      ∃ off, off < c.eramLen ∧ 0x8000 ≤ a.toNat ∧ d = { c with eram := c.eram.write off v } := by
    intro off ha hp
    unfold Cartridge.eramPut at hp
    split at hp
    · cases hp; exact ⟨off, ‹_›, ha, rfl⟩
    · cases hp
  have none : d = c → ∃ m, m.variant = c.mapper.variant ∧ (c.mapper.BankNonzero → m.BankNonzero) ∧
      d = { c with mapper := m } := fun hd => ⟨c.mapper, rfl, id, hd⟩
  unfold mapperWrite at h
  split at h
  case h_1 hm =>
    unfold noMbcWrite at h
    split at h
    · cases h; exact .inr (none rfl)
    · exact .inl (put (by omega) h)
  case h_2 r hm =>
    unfold mbc1Write at h
    split at h
    case isTrue ha =>
      cases h
      refine .inr ⟨_, by rw [hm]; rfl, fun hb => ?_, rfl⟩
      rw [hm] at hb
      unfold Mbc1.writeReg
      split
      · exact hb
      · split
        · show mbc1Bank v ≠ 0
          unfold mbc1Bank
          split
          · decide
          · assumption
        · split <;> exact hb
    case isFalse ha =>
      split at h
      · exact .inl (put (by omega) h)
      · cases h; exact .inr (none rfl)
  case h_3 r hm =>
    unfold mbc3Write at h
    split at h
    case isTrue ha =>
      cases h
      refine .inr ⟨_, by rw [hm]; rfl, fun hb => ?_, rfl⟩
      rw [hm] at hb
      unfold Mbc3.writeReg
      split
      · exact hb
      · split
        · show mbc3Bank v ≠ 0
          unfold mbc3Bank
          split
          · decide
          · assumption
        · split <;> exact hb
    case isFalse ha =>
      split at h
      · cases h; exact .inr (none rfl)
      · split at h
        · exact .inl (put (by omega) h)
        · split at h
          · cases h; exact .inr ⟨_, by rw [hm]; rfl, fun hb => by rw [hm] at hb; exact hb, rfl⟩
          · cases h

/-- A store through the mapper keeps the ROM, the header and the variant. -/
theorem mapperWrite_same {c d : Cartridge} {a : Word} {v : Byte} (h : mapperWrite c a v = .ok d) : c.SameBut d := by
  obtain ⟨_, _, _, rfl⟩ | ⟨m, hv, _, rfl⟩ := mapperWrite_cases h
  · exact ⟨rfl, rfl, rfl⟩
  · exact ⟨rfl, rfl, hv⟩

/-! ## Stores -/

/-- EVERYTHING A STORE CAN DO (R202): one byte of one array, one register, the mapper's store, or nothing. -/
theorem busWrite_cases {s t : State} {a : Word} {v : Byte} (h : busWrite s a v = .ok t) :
    (∃ c, mapperWrite s.cart a v = .ok c ∧ (a.toNat < 0x8000 ∨ 0xA000 ≤ a.toNat ∧ a.toNat < 0xC000) ∧ t = s.setCart c) ∨
    (0x8000 ≤ a.toNat ∧ a.toNat < 0xA000 ∧ t = s.setVram (s.vram.write (a.toNat - 0x8000) v)) ∨
    (0xC000 ≤ a.toNat ∧ a.toNat < 0xE000 ∧ t = s.setWram (s.wram.write (a.toNat - 0xC000) v)) ∨
    (0xE000 ≤ a.toNat ∧ a.toNat < 0xFF80 ∧ t = s) ∨
    (∃ r, ioRegAt a.toNat = some r ∧ 0xFF00 ≤ a.toNat ∧ a.toNat < 0xFF80 ∧ t = ioWrite s r v) ∨
    (0xFF80 ≤ a.toNat ∧ a.toNat < 0xFFFF ∧ t = s.setHram (s.hram.write (a.toNat - 0xFF80) v)) ∨
    (a.toNat = 0xFFFF ∧ t = s.setIe v) := by
  have mapper : (mapperWrite s.cart a v).map s.setCart = .ok t → ∃ c, mapperWrite s.cart a v = .ok c ∧ t = s.setCart c := by
    intro hm
    cases hc : mapperWrite s.cart a v with
    | error e => rw [hc] at hm; cases hm
    | ok c => rw [hc] at hm; cases hm; exact ⟨c, rfl, rfl⟩
  unfold busWrite at h
  rcases route_cases s.bootMode a with ⟨_, _, hr⟩ | ⟨_, h1, hr⟩ | ⟨h1, h2, hr⟩ | ⟨h1, h2, hr⟩ | ⟨h1, h2, hr⟩ | ⟨h1, h2, hr⟩ |
    ⟨r, h1, h2, h3, hr⟩ | ⟨h1, h2, hr⟩ | ⟨h1, hr⟩ <;> rw [hr] at h
  · cases h
  · obtain ⟨c, hc, ht⟩ := mapper h; exact .inl ⟨c, hc, .inl h1, ht⟩
  · cases h; exact .inr (.inl ⟨h1, h2, rfl⟩)
  · obtain ⟨c, hc, ht⟩ := mapper h; exact .inl ⟨c, hc, .inr ⟨h1, h2⟩, ht⟩
  · cases h; exact .inr (.inr (.inl ⟨h1, h2, rfl⟩))
  · cases h; exact .inr (.inr (.inr (.inl ⟨h1, h2, rfl⟩)))
  · cases h; exact .inr (.inr (.inr (.inr (.inl ⟨r, h3, h1, h2, rfl⟩))))
  · cases h; exact .inr (.inr (.inr (.inr (.inr (.inl ⟨h1, h2, rfl⟩)))))
  · cases h; exact .inr (.inr (.inr (.inr (.inr (.inr ⟨h1, rfl⟩)))))

/-- What no store changes: the CPU, the boot ROM, the pending actions, the ROM and the header, the PPU's position and
framebuffer, the master clock and the button latches; and a cleared boot mode stays cleared. -/
structure State.StoreFrame (s t : State) : Prop where
  regs : t.regs = s.regs
  ime : t.ime = s.ime
  history : t.history = s.history
  status : t.status = s.status
  bootRom : t.bootRom = s.bootRom
  bootMode : s.bootMode = false → t.bootMode = false
  cart : s.cart.SameBut t.cart
  queue : t.queue = s.queue
  driver : t.driver = s.driver
  line : t.ppu.line = s.ppu.line
  dot : t.ppu.dot = s.ppu.dot
  fb : t.ppu.fb = s.ppu.fb
  master : t.timer.master = s.timer.master
  buttons : t.joypad.buttons = s.joypad.buttons
  dpad : t.joypad.dpad = s.joypad.dpad

theorem Cartridge.SameBut.refl (c : Cartridge) : c.SameBut c := ⟨rfl, rfl, rfl⟩

theorem State.StoreFrame.refl (s : State) : s.StoreFrame s :=
  ⟨rfl, rfl, rfl, rfl, rfl, id, .refl _, rfl, rfl, rfl, rfl, rfl, rfl, rfl, rfl⟩

theorem ioWrite_frame (s : State) (r : IoReg) (v : Byte) : s.StoreFrame (ioWrite s r v) := by
  cases r
  case boot =>
    show s.StoreFrame (if v = 0x01 then s.setBootMode false else s)
    split
    · exact ⟨rfl, rfl, rfl, rfl, rfl, fun _ => rfl, .refl _, rfl, rfl, rfl, rfl, rfl, rfl, rfl, rfl⟩
    · exact .refl s
  all_goals exact ⟨rfl, rfl, rfl, rfl, rfl, id, .refl _, rfl, rfl, rfl, rfl, rfl, rfl, rfl, rfl⟩

/-- EVERY STORE KEEPS THE FRAME. -/
theorem busWrite_frame {s t : State} {a : Word} {v : Byte} (h : busWrite s a v = .ok t) : s.StoreFrame t := by
  obtain ⟨c, hc, _, rfl⟩ | ⟨_, _, rfl⟩ | ⟨_, _, rfl⟩ | ⟨_, _, rfl⟩ | ⟨r, _, _, _, rfl⟩ | ⟨_, _, rfl⟩ | ⟨_, rfl⟩ :=
    busWrite_cases h
  · exact ⟨rfl, rfl, rfl, rfl, rfl, id, mapperWrite_same hc, rfl, rfl, rfl, rfl, rfl, rfl, rfl, rfl⟩
  case inr.inr.inr.inr.inl => exact ioWrite_frame s r v
  all_goals exact ⟨rfl, rfl, rfl, rfl, rfl, id, .refl _, rfl, rfl, rfl, rfl, rfl, rfl, rfl, rfl⟩

theorem ioWrite_inv {s : State} (hi : s.Inv) (r : IoReg) (v : Byte) : (ioWrite s r v).Inv := by
  obtain ⟨h1, h2, h3, h4, h5, h6, h7, h8, h9, h10, h11, h12, h13, h14, h15, h16⟩ := hi
  cases r
  case stat =>
    refine ⟨h1, h2, h3, h4, h5, h6, h7, h8, h9, h10, h11, ?_, h13, h14, h15, h16⟩
    show v &&& 0xF8 &&& 0x07 = 0
    rw [BitVec.and_assoc]
    exact BitVec.and_zero
  case boot =>
    show State.Inv (if v = 0x01 then s.setBootMode false else s)
    split <;> exact ⟨h1, h2, h3, h4, h5, h6, h7, h8, h9, h10, h11, h12, h13, h14, h15, h16⟩
  all_goals exact ⟨h1, h2, h3, h4, h5, h6, h7, h8, h9, h10, h11, h12, h13, h14, h15, h16⟩

theorem mapperWrite_inv {s : State} {a : Word} {v : Byte} {c : Cartridge} (hi : s.Inv)
    (h : mapperWrite s.cart a v = .ok c) : (s.setCart c).Inv := by
  obtain ⟨h1, h2, h3, h4, h5, h6, h7, h8, h9, h10, h11, h12, h13, h14, h15, h16⟩ := hi
  obtain ⟨off, ho, _, rfl⟩ | ⟨m, hv, hb, rfl⟩ := mapperWrite_cases h
  · exact ⟨h1, h2, h3, h4, h5, h6, h7, Memory.write_fits h8 ho v, h9, h10, h11, h12, h13, h14, h15, h16⟩
  · exact ⟨h1, h2, h3, h4, h5, h6, h7, h8, h9, hv.trans h10, hb h11, h12, h13, h14, h15, h16⟩

/-- EVERY STORE KEEPS THE INVARIANT. -/
theorem busWrite_inv {s t : State} {a : Word} {v : Byte} (hi : s.Inv) (h : busWrite s a v = .ok t) : t.Inv := by
  obtain ⟨c, hc, _, rfl⟩ | ⟨ha, hb, rfl⟩ | ⟨ha, hb, rfl⟩ | ⟨_, _, rfl⟩ | ⟨r, _, _, _, rfl⟩ | ⟨ha, hb, rfl⟩ | ⟨_, rfl⟩ :=
    busWrite_cases h
  case inl => exact mapperWrite_inv hi hc
  case inr.inr.inr.inr.inl => exact ioWrite_inv hi r v
  case inr.inr.inr.inl => exact hi
  all_goals obtain ⟨h1, h2, h3, h4, h5, h6, h7, h8, h9, h10, h11, h12, h13, h14, h15, h16⟩ := hi
  · exact ⟨h1, h2, h3, h4, Memory.write_fits h5 (by unfold Config.vramSize; omega) v, h6, h7, h8, h9, h10, h11, h12, h13,
      h14, h15, h16⟩
  · exact ⟨h1, h2, Memory.write_fits h3 (by unfold Config.wramSize; omega) v, h4, h5, h6, h7, h8, h9, h10, h11, h12, h13,
      h14, h15, h16⟩
  · exact ⟨h1, h2, h3, Memory.write_fits h4 (by unfold Config.hramSize; omega) v, h5, h6, h7, h8, h9, h10, h11, h12, h13,
      h14, h15, h16⟩
  · exact ⟨h1, h2, h3, h4, h5, h6, h7, h8, h9, h10, h11, h12, h13, h14, h15, h16⟩

/-! ## Reads after register-file updates -/

/-- A read does not depend on the CPU, the pending actions or the framebuffer. -/
theorem busRead_congr {s t : State} (a : Word) (hb : t.bootMode = s.bootMode) (hr : t.bootRom = s.bootRom)
    (hc : t.cart = s.cart) (hv : t.vram = s.vram) (hw : t.wram = s.wram) (hh : t.hram = s.hram) (he : t.ie = s.ie)
    (hf : t.iflag = s.iflag) (ht : t.timer = s.timer) (hp : t.ppu = s.ppu) (hj : t.joypad = s.joypad) :
    busRead t a = busRead s a := by
  unfold busRead
  rw [hb, hr, hc, hv, hw, hh, he]
  have io : ∀ r, ioRead t r = ioRead s r := by intro r; unfold ioRead; rw [hb, hf, ht, hp, hj]
  cases route s.bootMode a <;> simp only [io]

@[simp] theorem busRead_setRegs (s : State) (r : Regs) (a : Word) : busRead (s.setRegs r) a = busRead s a :=
  busRead_congr a rfl rfl rfl rfl rfl rfl rfl rfl rfl rfl rfl

@[simp] theorem busRead_setIme (s : State) (b : Bool) (a : Word) : busRead (s.setIme b) a = busRead s a :=
  busRead_congr a rfl rfl rfl rfl rfl rfl rfl rfl rfl rfl rfl

@[simp] theorem busRead_setHistory (s : State) (h : List Word) (a : Word) : busRead (s.setHistory h) a = busRead s a :=
  busRead_congr a rfl rfl rfl rfl rfl rfl rfl rfl rfl rfl rfl

@[simp] theorem busRead_setStatus (s : State) (x : Status) (a : Word) : busRead (s.setStatus x) a = busRead s a :=
  busRead_congr a rfl rfl rfl rfl rfl rfl rfl rfl rfl rfl rfl

@[simp] theorem busRead_setQueue (s : State) (q : List Action) (a : Word) : busRead (s.setQueue q) a = busRead s a :=
  busRead_congr a rfl rfl rfl rfl rfl rfl rfl rfl rfl rfl rfl

@[simp] theorem busRead_setDriver (s : State) (d : Driver) (a : Word) : busRead (s.setDriver d) a = busRead s a :=
  busRead_congr a rfl rfl rfl rfl rfl rfl rfl rfl rfl rfl rfl

@[simp] theorem busRead_takeFault (s : State) (e : Trap) (a : Word) : busRead (s.takeFault e) a = busRead s a :=
  busRead_setStatus s _ a

/-- A state that differs only in RAM reads alike wherever the RAM byte is alike. -/
theorem busRead_ram_congr {s t : State} (a : Word) (h : t = { s with wram := t.wram, hram := t.hram, vram := t.vram })
    (hw : 0xC000 ≤ a.toNat → a.toNat < 0xE000 → t.wram.read (a.toNat - 0xC000) = s.wram.read (a.toNat - 0xC000))
    (hv : 0x8000 ≤ a.toNat → a.toNat < 0xA000 → t.vram.read (a.toNat - 0x8000) = s.vram.read (a.toNat - 0x8000))
    (hh : 0xFF80 ≤ a.toNat → a.toNat < 0xFFFF → t.hram.read (a.toNat - 0xFF80) = s.hram.read (a.toNat - 0xFF80)) :
    busRead t a = busRead s a := by
  have hm : t.bootMode = s.bootMode := by rw [h]
  unfold busRead
  rw [hm]
  rcases route_cases s.bootMode a with ⟨_, _, hr⟩ | ⟨_, _, hr⟩ | ⟨h1, h2, hr⟩ | ⟨_, _, hr⟩ | ⟨h1, h2, hr⟩ | ⟨_, _, hr⟩ |
    ⟨r, _, _, _, hr⟩ | ⟨h1, h2, hr⟩ | ⟨_, hr⟩ <;> rw [hr] <;> dsimp only
  · rw [h]
  · rw [h]
  · rw [hv h1 h2]
  · rw [h]
  · rw [hw h1 h2]
  · rw [show ioRead t r = ioRead s r by rw [h]; cases r <;> rfl]
  · rw [hh h1 h2]
  · rw [h]

end Sys2Proof.Machine
end

