-- ==== Sys2Proof/Laws/Accesses.lean ====
section
/-! SUPPORT. The laws of the accesses of Ops.lean: what each answers when the bus accepts it, what when the bus faults,
and everything it can answer. -/

namespace Sys2Proof.Machine

section
variable {s t t1 t2 : State} {a : Word} {v lo hi : Byte} {w : Word} {e : Trap}

/-! ## When the access succeeds -/

theorem readByte_ok {k : Byte → Out} (h : busRead s a = .ok v) : readByte s a k = k v := by rw [readByte, h]

theorem writeByte_ok {k : State → Out} (h : busWrite s a v = .ok t) : writeByte s a v k = k t := by rw [writeByte, h]

theorem readWord_ok {k : Word → Out} (h1 : busRead s a = .ok lo) (h2 : busRead s (a + 1) = .ok hi) :
    readWord s a k = k (joinBytes hi lo) := by rw [readWord, readByte_ok h1, readByte_ok h2]

theorem writeWord_ok {k : State → Out} (h1 : busWrite s a (loByte w) = .ok t1)
    (h2 : busWrite t1 (a + 1) (hiByte w) = .ok t2) : writeWord s a w k = k t2 := by
  rw [writeWord, writeByte_ok h1, writeByte_ok h2]

theorem fetchByte_ok {k : Byte → State → Out} (h : busRead s s.regs.pc = .ok v) :
    fetchByte s k = k v (s.setPc (s.regs.pc + 1)) := readByte_ok h

theorem push16_ok {k : State → Out} (h1 : busWrite (s.setSp (s.regs.sp - 2)) (s.regs.sp - 2) (loByte w) = .ok t1)
    (h2 : busWrite t1 (s.regs.sp - 2 + 1) (hiByte w) = .ok t2) : push16 s w k = k t2 := writeWord_ok h1 h2

theorem pop16_ok {k : Word → State → Out} (h1 : busRead s s.regs.sp = .ok lo)
    (h2 : busRead s (s.regs.sp + 1) = .ok hi) : pop16 s k = k (joinBytes hi lo) (s.setSp (s.regs.sp + 2)) :=
  readWord_ok h1 h2

/-! ## When the access faults (R802) -/

theorem readByte_error {k : Byte → Out} (h : busRead s a = .error e) : readByte s a k = raiseFault s e := by
  rw [readByte, h]

theorem writeByte_error {k : State → Out} (h : busWrite s a v = .error e) : writeByte s a v k = raiseFault s e := by
  rw [writeByte, h]

theorem fetchByte_error {k : Byte → State → Out} (h : busRead s s.regs.pc = .error e) :
    fetchByte s k = raiseFault s e := readByte_error h

/-- A word read that faults on its first or on its second byte. -/
theorem readWord_error {k : Word → Out}
    (h : busRead s a = .error e ∨ ∃ lo, busRead s a = .ok lo ∧ busRead s (a + 1) = .error e) :
    readWord s a k = raiseFault s e := by
  rcases h with h | ⟨lo, h1, h2⟩
  · rw [readWord, readByte_error h]
  · rw [readWord, readByte_ok h1, readByte_error h2]

/-- A word write that faults on its first byte, or on its second byte with the first written (R207). -/
theorem writeWord_error {k : State → Out}
    (h : (busWrite s a (loByte w) = .error e ∧ t = s) ∨
      (busWrite s a (loByte w) = .ok t ∧ busWrite t (a + 1) (hiByte w) = .error e)) :
    writeWord s a w k = raiseFault t e := by
  rcases h with ⟨h, rfl⟩ | ⟨h1, h2⟩
  · rw [writeWord, writeByte_error h]
  · rw [writeWord, writeByte_ok h1, writeByte_error h2]

/-- A push that faults on its first or on its second byte: SP is lowered in both cases. -/
theorem push16_error {k : State → Out}
    (h : (busWrite (s.setSp (s.regs.sp - 2)) (s.regs.sp - 2) (loByte w) = .error e ∧ t = s.setSp (s.regs.sp - 2)) ∨
      (busWrite (s.setSp (s.regs.sp - 2)) (s.regs.sp - 2) (loByte w) = .ok t ∧
        busWrite t (s.regs.sp - 2 + 1) (hiByte w) = .error e)) :
    push16 s w k = raiseFault t e := writeWord_error h

/-! ## Everything it can answer -/

theorem readByte_next {k : Byte → Out} (h : readByte s a k = .next t) :
    (∃ v, busRead s a = .ok v ∧ k v = .next t) ∨ (∃ e, busRead s a = .error e ∧ t = s.takeFault e) := by
  unfold readByte at h
  cases hr : busRead s a with
  | ok v => rw [hr] at h; exact .inl ⟨v, rfl, h⟩
  | error e => rw [hr] at h; cases h; exact .inr ⟨e, rfl, rfl⟩

theorem writeByte_next {k : State → Out} (h : writeByte s a v k = .next t) :
    (∃ u, busWrite s a v = .ok u ∧ k u = .next t) ∨ (∃ e, busWrite s a v = .error e ∧ t = s.takeFault e) := by
  unfold writeByte at h
  cases hr : busWrite s a v with
  | ok u => rw [hr] at h; exact .inl ⟨u, rfl, h⟩
  | error e => rw [hr] at h; cases h; exact .inr ⟨e, rfl, rfl⟩

theorem readWord_next {k : Word → Out} (h : readWord s a k = .next t) :
    (∃ w, k w = .next t) ∨ (∃ e, t = s.takeFault e) := by
  obtain ⟨lo, _, h⟩ | ⟨e, _, h⟩ := readByte_next h
  · obtain ⟨hi, _, h⟩ | ⟨e, _, h⟩ := readByte_next h
    · exact .inl ⟨_, h⟩
    · exact .inr ⟨e, h⟩
  · exact .inr ⟨e, h⟩

theorem writeWord_next {k : State → Out} (h : writeWord s a w k = .next t) :
    (∃ u1 u2, busWrite s a (loByte w) = .ok u1 ∧ busWrite u1 (a + 1) (hiByte w) = .ok u2 ∧ k u2 = .next t) ∨
    (∃ u1 e, busWrite s a (loByte w) = .ok u1 ∧ t = u1.takeFault e) ∨ (∃ e, t = s.takeFault e) := by
  obtain ⟨u1, h1, h⟩ | ⟨e, _, h⟩ := writeByte_next h
  · obtain ⟨u2, h2, h⟩ | ⟨e, _, h⟩ := writeByte_next h
    · exact .inl ⟨u1, u2, h1, h2, h⟩
    · exact .inr (.inl ⟨u1, e, h1, h⟩)
  · exact .inr (.inr ⟨e, h⟩)

end

/-! ## Evolution -/

/-- `s.Evolves t`: `t` is made from `s` by writes of the register file that keep F[3:0] zero (R101), writes of IME,
faults, and stores that the bus accepts. -/
inductive State.Evolves (s : State) : State → Prop
  | refl : s.Evolves s
  | regs {t : State} (h : s.Evolves t) (r : Regs) (hf : t.regs.f &&& 0x0F = 0 → r.f &&& 0x0F = 0) :
      s.Evolves (t.setRegs r)
  | ime {t : State} (h : s.Evolves t) (b : Bool) : s.Evolves (t.setIme b)
  | fault {t : State} (h : s.Evolves t) (e : Trap) : s.Evolves (t.takeFault e)
  | store {t u : State} (h : s.Evolves t) {a : Word} {v : Byte} (hw : busWrite t a v = .ok u) : s.Evolves u

/-- Evolution composes. -/
theorem State.Evolves.trans {s t u : State} (h1 : s.Evolves t) (h2 : t.Evolves u) : s.Evolves u := by
  induction h2 with
  | refl => exact h1
  | regs _ r hf ih => exact ih.regs r hf
  | ime _ b ih => exact ih.ime b
  | fault _ e ih => exact ih.fault e
  | store _ hw ih => exact ih.store hw

/-- Evolution keeps the invariant. -/
theorem State.Evolves.inv {s t : State} (h : s.Evolves t) (hi : s.Inv) : t.Inv := by
  induction h with
  | refl => exact hi
  | regs _ r hf ih => exact { ih with fLow := hf ih.fLow }
  | ime _ b ih => exact { ih with }
  | fault _ e ih => exact { ih with }
  | store _ hw ih => exact busWrite_inv ih hw

/-- What evolution leaves alone: everything `State.StoreFrame` names but the CPU. -/
structure State.EvolveFrame (s t : State) : Prop where
  history : t.history = s.history
  bootRom : t.bootRom = s.bootRom
  bootMode : s.bootMode = false → t.bootMode = false
  cart : s.cart.SameBut t.cart
  queue : t.queue = s.queue
  driver : t.driver = s.driver
  line : t.ppu.line = s.ppu.line
  dot : t.ppu.dot = s.ppu.dot
  fb : t.ppu.fb = s.ppu.fb
  master : t.timer.master = s.timer.master
  buttons : t.joypad.buttons = s.joypad.buttons
  dpad : t.joypad.dpad = s.joypad.dpad

theorem State.Evolves.frame {s t : State} (h : s.Evolves t) : s.EvolveFrame t := by
  induction h with
  | refl => exact ⟨rfl, rfl, id, .refl _, rfl, rfl, rfl, rfl, rfl, rfl, rfl, rfl⟩
  | regs _ r _ ih => exact { ih with }
  | ime _ b ih => exact { ih with }
  | fault _ e ih => exact { ih with }
  | store _ hw ih =>
    have f := busWrite_frame hw
    exact ⟨f.history.trans ih.history, f.bootRom.trans ih.bootRom, fun hb => f.bootMode (ih.bootMode hb),
      ⟨f.cart.rom.trans ih.cart.rom, f.cart.header.trans ih.cart.header, f.cart.variant.trans ih.cart.variant⟩,
      f.queue.trans ih.queue, f.driver.trans ih.driver, f.line.trans ih.line, f.dot.trans ih.dot, f.fb.trans ih.fb,
      f.master.trans ih.master, f.buttons.trans ih.buttons, f.dpad.trans ih.dpad⟩

end Sys2Proof.Machine
end

