-- ==== Sys2Proof/Laws/Families.lean ====
section
/-! SUPPORT. Proving something of every instruction, family by family. -/

namespace Sys2Proof

/-- THE INSTRUCTION SET BY FAMILY: what holds of every family of Syntax.lean and of each remaining instruction holds of
all 511. -/
theorem Instr.by_family {P : Instr → Prop}
    (ldRegReg : ∀ (dst : Reg8) (src : Reg8), P (Instr.ldRegReg dst src))
    (ldRegImm : ∀ (v : Byte) (dst : Reg8), P (Instr.ldRegImm v dst))
    (ldRegAtHL : ∀ (dst : Reg8), P (Instr.ldRegAtHL dst))
    (ldAtHLReg : ∀ (dst : Reg8), P (Instr.ldAtHLReg dst))
    (ldPairImm : ∀ (v : Word) (p : Pair), P (Instr.ldPairImm v p))
    (incPair : ∀ (p : Pair), P (Instr.incPair p))
    (decPair : ∀ (p : Pair), P (Instr.decPair p))
    (addHLPair : ∀ (p : Pair), P (Instr.addHLPair p))
    (push : ∀ (q : StackPair), P (Instr.push q))
    (pop : ∀ (q : StackPair), P (Instr.pop q))
    (alu : ∀ (op : AluOp) (o : Operand8), P (Instr.alu op o))
    (aluImm : ∀ (v : Byte) (op : AluOp), P (Instr.aluImm v op))
    (inc : ∀ (o : Operand8), P (Instr.inc o))
    (dec : ∀ (o : Operand8), P (Instr.dec o))
    (rot : ∀ (op : RotOp) (o : Operand8), P (Instr.rot op o))
    (bit : ∀ (k : Fin 8) (o : Operand8), P (Instr.bit k o))
    (res : ∀ (k : Fin 8) (o : Operand8), P (Instr.res k o))
    (set : ∀ (k : Fin 8) (o : Operand8), P (Instr.set k o))
    (jpCond : ∀ (v : Word) (cc : Cond), P (Instr.jpCond v cc))
    (jrCond : ∀ (v : Byte) (cc : Cond), P (Instr.jrCond v cc))
    (callCond : ∀ (v : Word) (cc : Cond), P (Instr.callCond v cc))
    (retCond : ∀ (cc : Cond), P (Instr.retCond cc))
    (rst : ∀ (k : Fin 8), P (Instr.rst k))
    (undefinedOp : ∀ (u : UndefinedOp), P (Instr.undefinedOp u))
    (ld_atA16_SP : ∀ (v : Word), P (Instr.ld_atA16_SP v))
    (stop : ∀ (v : Byte), P (Instr.stop v))
    (jr_r8 : ∀ (v : Byte), P (Instr.jr_r8 v))
    (ld_atHL_d8 : ∀ (v : Byte), P (Instr.ld_atHL_d8 v))
    (jp_a16 : ∀ (v : Word), P (Instr.jp_a16 v))
    (call_a16 : ∀ (v : Word), P (Instr.call_a16 v))
    (ldh_atA8_A : ∀ (v : Byte), P (Instr.ldh_atA8_A v))
    (add_SP_r8 : ∀ (v : Byte), P (Instr.add_SP_r8 v))
    (ld_atA16_A : ∀ (v : Word), P (Instr.ld_atA16_A v))
    (ldh_A_atA8 : ∀ (v : Byte), P (Instr.ldh_A_atA8 v))
    (ld_HL_SPr8 : ∀ (v : Byte), P (Instr.ld_HL_SPr8 v))
    (ld_A_atA16 : ∀ (v : Word), P (Instr.ld_A_atA16 v))
    (nop : P .nop)
    (ld_atBC_A : P .ld_atBC_A)
    (rlca : P .rlca)
    (ld_A_atBC : P .ld_A_atBC)
    (rrca : P .rrca)
    (ld_atDE_A : P .ld_atDE_A)
    (rla : P .rla)
    (ld_A_atDE : P .ld_A_atDE)
    (rra : P .rra)
    (ld_atHLI_A : P .ld_atHLI_A)
    (daa : P .daa)
    (ld_A_atHLI : P .ld_A_atHLI)
    (cpl : P .cpl)
    (ld_atHLD_A : P .ld_atHLD_A)
    (scf : P .scf)
    (ld_A_atHLD : P .ld_A_atHLD)
    (ccf : P .ccf)
    (halt : P .halt)
    (ret : P .ret)
    (reti : P .reti)
    (ld_atC_A : P .ld_atC_A)
    (jp_HL : P .jp_HL)
    (ld_A_atC : P .ld_A_atC)
    (di : P .di)
    (ld_SP_HL : P .ld_SP_HL)
    (ei : P .ei)
    (i : Instr) : P i :=
  match i with
  | .ld_BC_d16 v => ldPairImm v .bc
  | .ld_B_d8 v => ldRegImm v .b
  | .ld_atA16_SP v => ld_atA16_SP v
  | .ld_C_d8 v => ldRegImm v .c
  | .stop v => stop v
  | .ld_DE_d16 v => ldPairImm v .de
  | .ld_D_d8 v => ldRegImm v .d
  | .jr_r8 v => jr_r8 v
  | .ld_E_d8 v => ldRegImm v .e
  | .jr_NZ_r8 v => jrCond v .nz
  | .ld_HL_d16 v => ldPairImm v .hl
  | .ld_H_d8 v => ldRegImm v .h
  | .jr_Z_r8 v => jrCond v .z
  | .ld_L_d8 v => ldRegImm v .l
  | .jr_NC_r8 v => jrCond v .nc
  | .ld_SP_d16 v => ldPairImm v .sp
  | .ld_atHL_d8 v => ld_atHL_d8 v
  | .jr_C_r8 v => jrCond v .c
  | .ld_A_d8 v => ldRegImm v .a
  | .jp_NZ_a16 v => jpCond v .nz
  | .jp_a16 v => jp_a16 v
  | .call_NZ_a16 v => callCond v .nz
  | .add_A_d8 v => aluImm v .add
  | .jp_Z_a16 v => jpCond v .z
  | .call_Z_a16 v => callCond v .z
  | .call_a16 v => call_a16 v
  | .adc_A_d8 v => aluImm v .adc
  | .jp_NC_a16 v => jpCond v .nc
  | .call_NC_a16 v => callCond v .nc
  | .sub_d8 v => aluImm v .sub
  | .jp_C_a16 v => jpCond v .c
  | .call_C_a16 v => callCond v .c
  | .sbc_A_d8 v => aluImm v .sbc
  | .ldh_atA8_A v => ldh_atA8_A v
  | .and_d8 v => aluImm v .and
  | .add_SP_r8 v => add_SP_r8 v
  | .ld_atA16_A v => ld_atA16_A v
  | .xor_d8 v => aluImm v .xor
  | .ldh_A_atA8 v => ldh_A_atA8 v
  | .or_d8 v => aluImm v .or
  | .ld_HL_SPr8 v => ld_HL_SPr8 v
  | .ld_A_atA16 v => ld_A_atA16 v
  | .cp_d8 v => aluImm v .cp
  | .nop => nop
  | .ld_atBC_A => ld_atBC_A
  | .inc_BC => incPair .bc
  | .inc_B => inc (.reg .b)
  | .dec_B => dec (.reg .b)
  | .rlca => rlca
  | .add_HL_BC => addHLPair .bc
  | .ld_A_atBC => ld_A_atBC
  | .dec_BC => decPair .bc
  | .inc_C => inc (.reg .c)
  | .dec_C => dec (.reg .c)
  | .rrca => rrca
  | .ld_atDE_A => ld_atDE_A
  | .inc_DE => incPair .de
  | .inc_D => inc (.reg .d)
  | .dec_D => dec (.reg .d)
  | .rla => rla
  | .add_HL_DE => addHLPair .de
  | .ld_A_atDE => ld_A_atDE
  | .dec_DE => decPair .de
  | .inc_E => inc (.reg .e)
  | .dec_E => dec (.reg .e)
  | .rra => rra
  | .ld_atHLI_A => ld_atHLI_A
  | .inc_HL => incPair .hl
  | .inc_H => inc (.reg .h)
  | .dec_H => dec (.reg .h)
  | .daa => daa
  | .add_HL_HL => addHLPair .hl
  | .ld_A_atHLI => ld_A_atHLI
  | .dec_HL => decPair .hl
  | .inc_L => inc (.reg .l)
  | .dec_L => dec (.reg .l)
  | .cpl => cpl
  | .ld_atHLD_A => ld_atHLD_A
  | .inc_SP => incPair .sp
  | .inc_atHL => inc .atHL
  | .dec_atHL => dec .atHL
  | .scf => scf
  | .add_HL_SP => addHLPair .sp
  | .ld_A_atHLD => ld_A_atHLD
  | .dec_SP => decPair .sp
  | .inc_A => inc (.reg .a)
  | .dec_A => dec (.reg .a)
  | .ccf => ccf
  | .ld_B_B => ldRegReg .b .b
  | .ld_B_C => ldRegReg .b .c
  | .ld_B_D => ldRegReg .b .d
  | .ld_B_E => ldRegReg .b .e
  | .ld_B_H => ldRegReg .b .h
  | .ld_B_L => ldRegReg .b .l
  | .ld_B_atHL => ldRegAtHL .b
  | .ld_B_A => ldRegReg .b .a
  | .ld_C_B => ldRegReg .c .b
  | .ld_C_C => ldRegReg .c .c
  | .ld_C_D => ldRegReg .c .d
  | .ld_C_E => ldRegReg .c .e
  | .ld_C_H => ldRegReg .c .h
  | .ld_C_L => ldRegReg .c .l
  | .ld_C_atHL => ldRegAtHL .c
  | .ld_C_A => ldRegReg .c .a
  | .ld_D_B => ldRegReg .d .b
  | .ld_D_C => ldRegReg .d .c
  | .ld_D_D => ldRegReg .d .d
  | .ld_D_E => ldRegReg .d .e
  | .ld_D_H => ldRegReg .d .h
  | .ld_D_L => ldRegReg .d .l
  | .ld_D_atHL => ldRegAtHL .d
  | .ld_D_A => ldRegReg .d .a
  | .ld_E_B => ldRegReg .e .b
  | .ld_E_C => ldRegReg .e .c
  | .ld_E_D => ldRegReg .e .d
  | .ld_E_E => ldRegReg .e .e
  | .ld_E_H => ldRegReg .e .h
  | .ld_E_L => ldRegReg .e .l
  | .ld_E_atHL => ldRegAtHL .e
  | .ld_E_A => ldRegReg .e .a
  | .ld_H_B => ldRegReg .h .b
  | .ld_H_C => ldRegReg .h .c
  | .ld_H_D => ldRegReg .h .d
  | .ld_H_E => ldRegReg .h .e
  | .ld_H_H => ldRegReg .h .h
  | .ld_H_L => ldRegReg .h .l
  | .ld_H_atHL => ldRegAtHL .h
  | .ld_H_A => ldRegReg .h .a
  | .ld_L_B => ldRegReg .l .b
  | .ld_L_C => ldRegReg .l .c
  | .ld_L_D => ldRegReg .l .d
  | .ld_L_E => ldRegReg .l .e
  | .ld_L_H => ldRegReg .l .h
  | .ld_L_L => ldRegReg .l .l
  | .ld_L_atHL => ldRegAtHL .l
  | .ld_L_A => ldRegReg .l .a
  | .ld_atHL_B => ldAtHLReg .b
  | .ld_atHL_C => ldAtHLReg .c
  | .ld_atHL_D => ldAtHLReg .d
  | .ld_atHL_E => ldAtHLReg .e
  | .ld_atHL_H => ldAtHLReg .h
  | .ld_atHL_L => ldAtHLReg .l
  | .halt => halt
  | .ld_atHL_A => ldAtHLReg .a
  | .ld_A_B => ldRegReg .a .b
  | .ld_A_C => ldRegReg .a .c
  | .ld_A_D => ldRegReg .a .d
  | .ld_A_E => ldRegReg .a .e
  | .ld_A_H => ldRegReg .a .h
  | .ld_A_L => ldRegReg .a .l
  | .ld_A_atHL => ldRegAtHL .a
  | .ld_A_A => ldRegReg .a .a
  | .add_A_B => alu .add (.reg .b)
  | .add_A_C => alu .add (.reg .c)
  | .add_A_D => alu .add (.reg .d)
  | .add_A_E => alu .add (.reg .e)
  | .add_A_H => alu .add (.reg .h)
  | .add_A_L => alu .add (.reg .l)
  | .add_A_atHL => alu .add .atHL
  | .add_A_A => alu .add (.reg .a)
  | .adc_A_B => alu .adc (.reg .b)
  | .adc_A_C => alu .adc (.reg .c)
  | .adc_A_D => alu .adc (.reg .d)
  | .adc_A_E => alu .adc (.reg .e)
  | .adc_A_H => alu .adc (.reg .h)
  | .adc_A_L => alu .adc (.reg .l)
  | .adc_A_atHL => alu .adc .atHL
  | .adc_A_A => alu .adc (.reg .a)
  | .sub_B => alu .sub (.reg .b)
  | .sub_C => alu .sub (.reg .c)
  | .sub_D => alu .sub (.reg .d)
  | .sub_E => alu .sub (.reg .e)
  | .sub_H => alu .sub (.reg .h)
  | .sub_L => alu .sub (.reg .l)
  | .sub_atHL => alu .sub .atHL
  | .sub_A => alu .sub (.reg .a)
  | .sbc_A_B => alu .sbc (.reg .b)
  | .sbc_A_C => alu .sbc (.reg .c)
  | .sbc_A_D => alu .sbc (.reg .d)
  | .sbc_A_E => alu .sbc (.reg .e)
  | .sbc_A_H => alu .sbc (.reg .h)
  | .sbc_A_L => alu .sbc (.reg .l)
  | .sbc_A_atHL => alu .sbc .atHL
  | .sbc_A_A => alu .sbc (.reg .a)
  | .and_B => alu .and (.reg .b)
  | .and_C => alu .and (.reg .c)
  | .and_D => alu .and (.reg .d)
  | .and_E => alu .and (.reg .e)
  | .and_H => alu .and (.reg .h)
  | .and_L => alu .and (.reg .l)
  | .and_atHL => alu .and .atHL
  | .and_A => alu .and (.reg .a)
  | .xor_B => alu .xor (.reg .b)
  | .xor_C => alu .xor (.reg .c)
  | .xor_D => alu .xor (.reg .d)
  | .xor_E => alu .xor (.reg .e)
  | .xor_H => alu .xor (.reg .h)
  | .xor_L => alu .xor (.reg .l)
  | .xor_atHL => alu .xor .atHL
  | .xor_A => alu .xor (.reg .a)
  | .or_B => alu .or (.reg .b)
  | .or_C => alu .or (.reg .c)
  | .or_D => alu .or (.reg .d)
  | .or_E => alu .or (.reg .e)
  | .or_H => alu .or (.reg .h)
  | .or_L => alu .or (.reg .l)
  | .or_atHL => alu .or .atHL
  | .or_A => alu .or (.reg .a)
  | .cp_B => alu .cp (.reg .b)
  | .cp_C => alu .cp (.reg .c)
  | .cp_D => alu .cp (.reg .d)
  | .cp_E => alu .cp (.reg .e)
  | .cp_H => alu .cp (.reg .h)
  | .cp_L => alu .cp (.reg .l)
  | .cp_atHL => alu .cp .atHL
  | .cp_A => alu .cp (.reg .a)
  | .ret_NZ => retCond .nz
  | .pop_BC => pop .bc
  | .push_BC => push .bc
  | .rst_00h => rst 0
  | .ret_Z => retCond .z
  | .ret => ret
  | .rst_08h => rst 1
  | .ret_NC => retCond .nc
  | .pop_DE => pop .de
  | .undefined_D3 => undefinedOp .xD3
  | .push_DE => push .de
  | .rst_10h => rst 2
  | .ret_C => retCond .c
  | .reti => reti
  | .undefined_DB => undefinedOp .xDB
  | .undefined_DD => undefinedOp .xDD
  | .rst_18h => rst 3
  | .pop_HL => pop .hl
  | .ld_atC_A => ld_atC_A
  | .undefined_E3 => undefinedOp .xE3
  | .undefined_E4 => undefinedOp .xE4
  | .push_HL => push .hl
  | .rst_20h => rst 4
  | .jp_HL => jp_HL
  | .undefined_EB => undefinedOp .xEB
  | .undefined_EC => undefinedOp .xEC
  | .undefined_ED => undefinedOp .xED
  | .rst_28h => rst 5
  | .pop_AF => pop .af
  | .ld_A_atC => ld_A_atC
  | .di => di
  | .undefined_F4 => undefinedOp .xF4
  | .push_AF => push .af
  | .rst_30h => rst 6
  | .ld_SP_HL => ld_SP_HL
  | .ei => ei
  | .undefined_FC => undefinedOp .xFC
  | .undefined_FD => undefinedOp .xFD
  | .rst_38h => rst 7
  | .rlc_B => rot .rlc (.reg .b)
  | .rlc_C => rot .rlc (.reg .c)
  | .rlc_D => rot .rlc (.reg .d)
  | .rlc_E => rot .rlc (.reg .e)
  | .rlc_H => rot .rlc (.reg .h)
  | .rlc_L => rot .rlc (.reg .l)
  | .rlc_atHL => rot .rlc .atHL
  | .rlc_A => rot .rlc (.reg .a)
  | .rrc_B => rot .rrc (.reg .b)
  | .rrc_C => rot .rrc (.reg .c)
  | .rrc_D => rot .rrc (.reg .d)
  | .rrc_E => rot .rrc (.reg .e)
  | .rrc_H => rot .rrc (.reg .h)
  | .rrc_L => rot .rrc (.reg .l)
  | .rrc_atHL => rot .rrc .atHL
  | .rrc_A => rot .rrc (.reg .a)
  | .rl_B => rot .rl (.reg .b)
  | .rl_C => rot .rl (.reg .c)
  | .rl_D => rot .rl (.reg .d)
  | .rl_E => rot .rl (.reg .e)
  | .rl_H => rot .rl (.reg .h)
  | .rl_L => rot .rl (.reg .l)
  | .rl_atHL => rot .rl .atHL
  | .rl_A => rot .rl (.reg .a)
  | .rr_B => rot .rr (.reg .b)
  | .rr_C => rot .rr (.reg .c)
  | .rr_D => rot .rr (.reg .d)
  | .rr_E => rot .rr (.reg .e)
  | .rr_H => rot .rr (.reg .h)
  | .rr_L => rot .rr (.reg .l)
  | .rr_atHL => rot .rr .atHL
  | .rr_A => rot .rr (.reg .a)
  | .sla_B => rot .sla (.reg .b)
  | .sla_C => rot .sla (.reg .c)
  | .sla_D => rot .sla (.reg .d)
  | .sla_E => rot .sla (.reg .e)
  | .sla_H => rot .sla (.reg .h)
  | .sla_L => rot .sla (.reg .l)
  | .sla_atHL => rot .sla .atHL
  | .sla_A => rot .sla (.reg .a)
  | .sra_B => rot .sra (.reg .b)
  | .sra_C => rot .sra (.reg .c)
  | .sra_D => rot .sra (.reg .d)
  | .sra_E => rot .sra (.reg .e)
  | .sra_H => rot .sra (.reg .h)
  | .sra_L => rot .sra (.reg .l)
  | .sra_atHL => rot .sra .atHL
  | .sra_A => rot .sra (.reg .a)
  | .swap_B => rot .swap (.reg .b)
  | .swap_C => rot .swap (.reg .c)
  | .swap_D => rot .swap (.reg .d)
  | .swap_E => rot .swap (.reg .e)
  | .swap_H => rot .swap (.reg .h)
  | .swap_L => rot .swap (.reg .l)
  | .swap_atHL => rot .swap .atHL
  | .swap_A => rot .swap (.reg .a)
  | .srl_B => rot .srl (.reg .b)
  | .srl_C => rot .srl (.reg .c)
  | .srl_D => rot .srl (.reg .d)
  | .srl_E => rot .srl (.reg .e)
  | .srl_H => rot .srl (.reg .h)
  | .srl_L => rot .srl (.reg .l)
  | .srl_atHL => rot .srl .atHL
  | .srl_A => rot .srl (.reg .a)
  | .bit_0_B => bit 0 (.reg .b)
  | .bit_0_C => bit 0 (.reg .c)
  | .bit_0_D => bit 0 (.reg .d)
  | .bit_0_E => bit 0 (.reg .e)
  | .bit_0_H => bit 0 (.reg .h)
  | .bit_0_L => bit 0 (.reg .l)
  | .bit_0_atHL => bit 0 .atHL
  | .bit_0_A => bit 0 (.reg .a)
  | .bit_1_B => bit 1 (.reg .b)
  | .bit_1_C => bit 1 (.reg .c)
  | .bit_1_D => bit 1 (.reg .d)
  | .bit_1_E => bit 1 (.reg .e)
  | .bit_1_H => bit 1 (.reg .h)
  | .bit_1_L => bit 1 (.reg .l)
  | .bit_1_atHL => bit 1 .atHL
  | .bit_1_A => bit 1 (.reg .a)
  | .bit_2_B => bit 2 (.reg .b)
  | .bit_2_C => bit 2 (.reg .c)
  | .bit_2_D => bit 2 (.reg .d)
  | .bit_2_E => bit 2 (.reg .e)
  | .bit_2_H => bit 2 (.reg .h)
  | .bit_2_L => bit 2 (.reg .l)
  | .bit_2_atHL => bit 2 .atHL
  | .bit_2_A => bit 2 (.reg .a)
  | .bit_3_B => bit 3 (.reg .b)
  | .bit_3_C => bit 3 (.reg .c)
  | .bit_3_D => bit 3 (.reg .d)
  | .bit_3_E => bit 3 (.reg .e)
  | .bit_3_H => bit 3 (.reg .h)
  | .bit_3_L => bit 3 (.reg .l)
  | .bit_3_atHL => bit 3 .atHL
  | .bit_3_A => bit 3 (.reg .a)
  | .bit_4_B => bit 4 (.reg .b)
  | .bit_4_C => bit 4 (.reg .c)
  | .bit_4_D => bit 4 (.reg .d)
  | .bit_4_E => bit 4 (.reg .e)
  | .bit_4_H => bit 4 (.reg .h)
  | .bit_4_L => bit 4 (.reg .l)
  | .bit_4_atHL => bit 4 .atHL
  | .bit_4_A => bit 4 (.reg .a)
  | .bit_5_B => bit 5 (.reg .b)
  | .bit_5_C => bit 5 (.reg .c)
  | .bit_5_D => bit 5 (.reg .d)
  | .bit_5_E => bit 5 (.reg .e)
  | .bit_5_H => bit 5 (.reg .h)
  | .bit_5_L => bit 5 (.reg .l)
  | .bit_5_atHL => bit 5 .atHL
  | .bit_5_A => bit 5 (.reg .a)
  | .bit_6_B => bit 6 (.reg .b)
  | .bit_6_C => bit 6 (.reg .c)
  | .bit_6_D => bit 6 (.reg .d)
  | .bit_6_E => bit 6 (.reg .e)
  | .bit_6_H => bit 6 (.reg .h)
  | .bit_6_L => bit 6 (.reg .l)
  | .bit_6_atHL => bit 6 .atHL
  | .bit_6_A => bit 6 (.reg .a)
  | .bit_7_B => bit 7 (.reg .b)
  | .bit_7_C => bit 7 (.reg .c)
  | .bit_7_D => bit 7 (.reg .d)
  | .bit_7_E => bit 7 (.reg .e)
  | .bit_7_H => bit 7 (.reg .h)
  | .bit_7_L => bit 7 (.reg .l)
  | .bit_7_atHL => bit 7 .atHL
  | .bit_7_A => bit 7 (.reg .a)
  | .res_0_B => res 0 (.reg .b)
  | .res_0_C => res 0 (.reg .c)
  | .res_0_D => res 0 (.reg .d)
  | .res_0_E => res 0 (.reg .e)
  | .res_0_H => res 0 (.reg .h)
  | .res_0_L => res 0 (.reg .l)
  | .res_0_atHL => res 0 .atHL
  | .res_0_A => res 0 (.reg .a)
  | .res_1_B => res 1 (.reg .b)
  | .res_1_C => res 1 (.reg .c)
  | .res_1_D => res 1 (.reg .d)
  | .res_1_E => res 1 (.reg .e)
  | .res_1_H => res 1 (.reg .h)
  | .res_1_L => res 1 (.reg .l)
  | .res_1_atHL => res 1 .atHL
  | .res_1_A => res 1 (.reg .a)
  | .res_2_B => res 2 (.reg .b)
  | .res_2_C => res 2 (.reg .c)
  | .res_2_D => res 2 (.reg .d)
  | .res_2_E => res 2 (.reg .e)
  | .res_2_H => res 2 (.reg .h)
  | .res_2_L => res 2 (.reg .l)
  | .res_2_atHL => res 2 .atHL
  | .res_2_A => res 2 (.reg .a)
  | .res_3_B => res 3 (.reg .b)
  | .res_3_C => res 3 (.reg .c)
  | .res_3_D => res 3 (.reg .d)
  | .res_3_E => res 3 (.reg .e)
  | .res_3_H => res 3 (.reg .h)
  | .res_3_L => res 3 (.reg .l)
  | .res_3_atHL => res 3 .atHL
  | .res_3_A => res 3 (.reg .a)
  | .res_4_B => res 4 (.reg .b)
  | .res_4_C => res 4 (.reg .c)
  | .res_4_D => res 4 (.reg .d)
  | .res_4_E => res 4 (.reg .e)
  | .res_4_H => res 4 (.reg .h)
  | .res_4_L => res 4 (.reg .l)
  | .res_4_atHL => res 4 .atHL
  | .res_4_A => res 4 (.reg .a)
  | .res_5_B => res 5 (.reg .b)
  | .res_5_C => res 5 (.reg .c)
  | .res_5_D => res 5 (.reg .d)
  | .res_5_E => res 5 (.reg .e)
  | .res_5_H => res 5 (.reg .h)
  | .res_5_L => res 5 (.reg .l)
  | .res_5_atHL => res 5 .atHL
  | .res_5_A => res 5 (.reg .a)
  | .res_6_B => res 6 (.reg .b)
  | .res_6_C => res 6 (.reg .c)
  | .res_6_D => res 6 (.reg .d)
  | .res_6_E => res 6 (.reg .e)
  | .res_6_H => res 6 (.reg .h)
  | .res_6_L => res 6 (.reg .l)
  | .res_6_atHL => res 6 .atHL
  | .res_6_A => res 6 (.reg .a)
  | .res_7_B => res 7 (.reg .b)
  | .res_7_C => res 7 (.reg .c)
  | .res_7_D => res 7 (.reg .d)
  | .res_7_E => res 7 (.reg .e)
  | .res_7_H => res 7 (.reg .h)
  | .res_7_L => res 7 (.reg .l)
  | .res_7_atHL => res 7 .atHL
  | .res_7_A => res 7 (.reg .a)
  | .set_0_B => set 0 (.reg .b)
  | .set_0_C => set 0 (.reg .c)
  | .set_0_D => set 0 (.reg .d)
  | .set_0_E => set 0 (.reg .e)
  | .set_0_H => set 0 (.reg .h)
  | .set_0_L => set 0 (.reg .l)
  | .set_0_atHL => set 0 .atHL
  | .set_0_A => set 0 (.reg .a)
  | .set_1_B => set 1 (.reg .b)
  | .set_1_C => set 1 (.reg .c)
  | .set_1_D => set 1 (.reg .d)
  | .set_1_E => set 1 (.reg .e)
  | .set_1_H => set 1 (.reg .h)
  | .set_1_L => set 1 (.reg .l)
  | .set_1_atHL => set 1 .atHL
  | .set_1_A => set 1 (.reg .a)
  | .set_2_B => set 2 (.reg .b)
  | .set_2_C => set 2 (.reg .c)
  | .set_2_D => set 2 (.reg .d)
  | .set_2_E => set 2 (.reg .e)
  | .set_2_H => set 2 (.reg .h)
  | .set_2_L => set 2 (.reg .l)
  | .set_2_atHL => set 2 .atHL
  | .set_2_A => set 2 (.reg .a)
  | .set_3_B => set 3 (.reg .b)
  | .set_3_C => set 3 (.reg .c)
  | .set_3_D => set 3 (.reg .d)
  | .set_3_E => set 3 (.reg .e)
  | .set_3_H => set 3 (.reg .h)
  | .set_3_L => set 3 (.reg .l)
  | .set_3_atHL => set 3 .atHL
  | .set_3_A => set 3 (.reg .a)
  | .set_4_B => set 4 (.reg .b)
  | .set_4_C => set 4 (.reg .c)
  | .set_4_D => set 4 (.reg .d)
  | .set_4_E => set 4 (.reg .e)
  | .set_4_H => set 4 (.reg .h)
  | .set_4_L => set 4 (.reg .l)
  | .set_4_atHL => set 4 .atHL
  | .set_4_A => set 4 (.reg .a)
  | .set_5_B => set 5 (.reg .b)
  | .set_5_C => set 5 (.reg .c)
  | .set_5_D => set 5 (.reg .d)
  | .set_5_E => set 5 (.reg .e)
  | .set_5_H => set 5 (.reg .h)
  | .set_5_L => set 5 (.reg .l)
  | .set_5_atHL => set 5 .atHL
  | .set_5_A => set 5 (.reg .a)
  | .set_6_B => set 6 (.reg .b)
  | .set_6_C => set 6 (.reg .c)
  | .set_6_D => set 6 (.reg .d)
  | .set_6_E => set 6 (.reg .e)
  | .set_6_H => set 6 (.reg .h)
  | .set_6_L => set 6 (.reg .l)
  | .set_6_atHL => set 6 .atHL
  | .set_6_A => set 6 (.reg .a)
  | .set_7_B => set 7 (.reg .b)
  | .set_7_C => set 7 (.reg .c)
  | .set_7_D => set 7 (.reg .d)
  | .set_7_E => set 7 (.reg .e)
  | .set_7_H => set 7 (.reg .h)
  | .set_7_L => set 7 (.reg .l)
  | .set_7_atHL => set 7 .atHL
  | .set_7_A => set 7 (.reg .a)

end Sys2Proof
end

