-- ==== Sys2Proof/Laws/Exec.lean ====
section
/-! SUPPORT. What `exec` is on each family: one equation per family, so that a proof over a family unfolds no dispatch. -/

namespace Sys2Proof.Machine

section
variable (s : State)

theorem exec_ldRegReg (dst src : Reg8) : exec (Instr.ldRegReg dst src) s = loadReg dst src s := by
  cases dst <;> cases src <;> rfl

theorem exec_ldRegImm (v : Byte) (dst : Reg8) : exec (Instr.ldRegImm v dst) s = loadImm dst v s := by cases dst <;> rfl

theorem exec_ldRegAtHL (dst : Reg8) : exec (Instr.ldRegAtHL dst) s = loadFrom dst s.regs.hl s := by cases dst <;> rfl

theorem exec_ldAtHLReg (src : Reg8) : exec (Instr.ldAtHLReg src) s = storeTo s.regs.hl (s.regs.get8 src) s := by
  cases src <;> rfl

theorem exec_ldPairImm (v : Word) (p : Pair) : exec (Instr.ldPairImm v p) s = loadPairImm p v s := by cases p <;> rfl

theorem exec_incPair (p : Pair) : exec (Instr.incPair p) s = incPair p s := by cases p <;> rfl

theorem exec_decPair (p : Pair) : exec (Instr.decPair p) s = decPair p s := by cases p <;> rfl

theorem exec_addHLPair (p : Pair) : exec (Instr.addHLPair p) s = addHl p s := by cases p <;> rfl

theorem exec_push (q : StackPair) : exec (Instr.push q) s = pushPair q s := by cases q <;> rfl

theorem exec_pop (q : StackPair) : exec (Instr.pop q) s = popPair q s := by cases q <;> rfl

theorem exec_alu (op : AluOp) (o : Operand8) : exec (Instr.alu op o) s = aluOperand op o s := by
  cases op <;> rcases o with r | _ <;> first | rfl | (cases r <;> rfl)

theorem exec_aluImm (v : Byte) (op : AluOp) : exec (Instr.aluImm v op) s = aluImmediate op v s := by cases op <;> rfl

theorem exec_inc (o : Operand8) : exec (Instr.inc o) s = incOperand o s := by
  rcases o with r | _ <;> first | rfl | (cases r <;> rfl)

theorem exec_dec (o : Operand8) : exec (Instr.dec o) s = decOperand o s := by
  rcases o with r | _ <;> first | rfl | (cases r <;> rfl)

theorem exec_rot (op : RotOp) (o : Operand8) : exec (Instr.rot op o) s = rotOperand op o s := by
  cases op <;> rcases o with r | _ <;> first | rfl | (cases r <;> rfl)

theorem exec_bit (b : Fin 8) (o : Operand8) : exec (Instr.bit b o) s = bitTest b o s := by
  fin_cases b <;> rcases o with r | _ <;> first | rfl | (cases r <;> rfl)

theorem exec_res (b : Fin 8) (o : Operand8) : exec (Instr.res b o) s = bitReset b o s := by
  fin_cases b <;> rcases o with r | _ <;> first | rfl | (cases r <;> rfl)

theorem exec_set (b : Fin 8) (o : Operand8) : exec (Instr.set b o) s = bitSet b o s := by
  fin_cases b <;> rcases o with r | _ <;> first | rfl | (cases r <;> rfl)

theorem exec_jpCond (v : Word) (cc : Cond) : exec (Instr.jpCond v cc) s = jumpIf cc v s := by cases cc <;> rfl

theorem exec_jrCond (v : Byte) (cc : Cond) : exec (Instr.jrCond v cc) s = jumpIf cc (relativeTarget s v) s := by
  cases cc <;> rfl

theorem exec_callCond (v : Word) (cc : Cond) : exec (Instr.callCond v cc) s = callIf cc v s := by cases cc <;> rfl

theorem exec_retCond (cc : Cond) : exec (Instr.retCond cc) s = retIf cc s := by cases cc <;> rfl

theorem exec_rst (t : Fin 8) : exec (Instr.rst t) s = call (restartTarget t) s := by fin_cases t <;> rfl

end

end Sys2Proof.Machine
end

