-- ==== Sys2Proof/Laws/Evolution.lean ====
section
/-! SUPPORT. Said once, everything an instruction, a CPU step and a device action can do: `exec_evolves`,
`cpuStep_evolves`, the frames of the timer and of the PPU, and `step_next`. -/

namespace Sys2Proof.Machine

section
variable {s t u : State}

/-! ## The shared operations -/

theorem evolves_next (h : s.Evolves u) (ht : Host.Outcome.next (φ := Fault) (ρ := Refusal) u = .next t) :
    s.Evolves t := by cases ht; exact h

theorem State.Evolves.keepF (h : s.Evolves t) (r : Regs) (hf : r.f = t.regs.f) : s.Evolves (t.setRegs r) :=
  h.regs r fun h0 => hf ▸ h0

theorem State.Evolves.setReg8 (h : s.Evolves t) (x : Reg8) (v : Byte) : s.Evolves (t.setReg8 x v) :=
  h.keepF _ (Regs.set8_f _ _ _)

theorem State.Evolves.setPair (h : s.Evolves t) (p : Pair) (w : Word) : s.Evolves (t.setPair p w) :=
  h.keepF _ (Regs.setPair_f _ _ _)

theorem State.Evolves.setPc (h : s.Evolves t) (w : Word) : s.Evolves (t.setPc w) := h.keepF _ rfl

theorem State.Evolves.setSp (h : s.Evolves t) (w : Word) : s.Evolves (t.setSp w) := h.keepF _ rfl

theorem State.Evolves.setFlags (h : s.Evolves t) (z n hf c : Bool) : s.Evolves (t.setFlags z n hf c) :=
  h.regs _ fun _ => by rw [Regs.setFlags_f]; exact packFlags_low z n hf c

theorem State.Evolves.setStackPair (h : s.Evolves t) (q : StackPair) (w : Word) : s.Evolves (t.setStackPair q w) := by
  cases q
  case af => exact h.regs _ fun _ => masked_low _
  all_goals exact h.keepF _ rfl

theorem raiseFault_evolves {e : Trap} (h : s.Evolves u) (ht : raiseFault u e = .next t) : s.Evolves t :=
  evolves_next (h.fault e) ht

theorem readByte_evolves {a : Word} {k : Byte → Out} (h : s.Evolves u) (hk : ∀ v t, k v = .next t → s.Evolves t)
    (ht : readByte u a k = .next t) : s.Evolves t := by
  obtain ⟨v, _, ht⟩ | ⟨e, _, rfl⟩ := readByte_next ht
  · exact hk v t ht
  · exact h.fault e

theorem writeByte_evolves {a : Word} {v : Byte} {k : State → Out} (h : s.Evolves u)
    (hk : ∀ u' t, s.Evolves u' → k u' = .next t → s.Evolves t) (ht : writeByte u a v k = .next t) : s.Evolves t := by
  obtain ⟨u', hw, ht⟩ | ⟨e, _, rfl⟩ := writeByte_next ht
  · exact hk u' t (h.store hw) ht
  · exact h.fault e

theorem readWord_evolves {a : Word} {k : Word → Out} (h : s.Evolves u) (hk : ∀ w t, k w = .next t → s.Evolves t)
    (ht : readWord u a k = .next t) : s.Evolves t :=
  readByte_evolves h (fun _ _ => readByte_evolves h fun _ t => hk _ t) ht

theorem writeWord_evolves {a w : Word} {k : State → Out} (h : s.Evolves u)
    (hk : ∀ u' t, s.Evolves u' → k u' = .next t → s.Evolves t) (ht : writeWord u a w k = .next t) : s.Evolves t :=
  writeByte_evolves h (fun _ _ h1 => writeByte_evolves h1 hk) ht

theorem push16_evolves {w : Word} {k : State → Out} (h : s.Evolves u)
    (hk : ∀ u' t, s.Evolves u' → k u' = .next t → s.Evolves t) (ht : push16 u w k = .next t) : s.Evolves t :=
  writeWord_evolves (h.setSp _) hk ht

theorem pop16_evolves {k : Word → State → Out} (h : s.Evolves u)
    (hk : ∀ w u' t, s.Evolves u' → k w u' = .next t → s.Evolves t) (ht : pop16 u k = .next t) : s.Evolves t :=
  readWord_evolves h (fun w t => hk w _ t (h.setSp _)) ht

theorem readOperand8_evolves {o : Operand8} {k : Byte → Out} (hk : ∀ v t, k v = .next t → s.Evolves t)
    (ht : readOperand8 o s k = .next t) : s.Evolves t := by
  cases o with
  | reg r => exact hk _ t ht
  | atHL => exact readByte_evolves .refl hk ht

theorem writeOperand8_evolves {o : Operand8} {v : Byte} {k : State → Out}
    (hk : ∀ u t, s.Evolves u → k u = .next t → s.Evolves t) (ht : writeOperand8 o v s k = .next t) : s.Evolves t := by
  cases o with
  | reg r => exact hk _ t (State.Evolves.refl.setReg8 r v) ht
  | atHL => exact writeByte_evolves .refl hk ht

/-! ## The meanings -/

theorem loadFrom_evolves {dst : Reg8} {a : Word} (h : loadFrom dst a s = .next t) : s.Evolves t :=
  readByte_evolves .refl (fun v _ => evolves_next (State.Evolves.refl.setReg8 dst v)) h

theorem storeTo_evolves {a : Word} {v : Byte} (h : storeTo a v s = .next t) : s.Evolves t :=
  writeByte_evolves .refl (fun _ _ => evolves_next) h

theorem loadStep_evolves {w : Word} (h : loadStep w s = .next t) : s.Evolves t :=
  readByte_evolves .refl (fun v _ => evolves_next ((State.Evolves.refl.setReg8 .a v).setPair .hl _)) h

theorem storeStep_evolves {w : Word} (h : storeStep w s = .next t) : s.Evolves t :=
  writeByte_evolves .refl (fun _ _ hu => evolves_next (hu.setPair .hl _)) h

theorem applyAlu_evolves (op : AluOp) (v : Byte) : s.Evolves (applyAlu op v s) := by
  unfold applyAlu
  dsimp only
  split
  · exact (State.Evolves.refl.setReg8 .a _).setFlags _ _ _ _
  · exact State.Evolves.refl.setFlags _ _ _ _

theorem writeBack_evolves {o : Operand8} {r : AluResult} (h : writeBack o r s = .next t) : s.Evolves t :=
  writeOperand8_evolves (fun _ _ hu => evolves_next (hu.setFlags _ _ _ _)) h

theorem rotOperand_evolves {op : RotOp} {o : Operand8} (h : rotOperand op o s = .next t) : s.Evolves t :=
  readOperand8_evolves (fun _ _ => writeOperand8_evolves fun _ _ hu => evolves_next (hu.setFlags _ _ _ _)) h

theorem bitReset_evolves {b : Fin 8} {o : Operand8} (h : bitReset b o s = .next t) : s.Evolves t :=
  readOperand8_evolves (fun _ _ => writeOperand8_evolves fun _ _ => evolves_next) h

theorem bitSet_evolves {b : Fin 8} {o : Operand8} (h : bitSet b o s = .next t) : s.Evolves t :=
  readOperand8_evolves (fun _ _ => writeOperand8_evolves fun _ _ => evolves_next) h

theorem call_evolves {a : Word} (h : call a s = .next t) : s.Evolves t :=
  push16_evolves .refl (fun _ _ hu => evolves_next (hu.setPc a)) h

theorem ret_evolves (h : ret s = .next t) : s.Evolves t :=
  pop16_evolves .refl (fun _ _ _ hu => evolves_next (hu.setPc _)) h

theorem returnFromInterrupt_evolves (h : returnFromInterrupt s = .next t) : s.Evolves t :=
  pop16_evolves .refl (fun v _ t hu => evolves_next (t := t) ((hu.setPc v).ime true)) h

/-- EVERYTHING AN INSTRUCTION CAN DO: its next state is an evolution of the state it runs in. -/
theorem exec_evolves (i : Instr) : ∀ {s t : State}, exec i s = .next t → s.Evolves t := by
  induction i using Instr.by_family <;> intro s t h
  case ldRegReg => rw [exec_ldRegReg] at h; exact evolves_next (State.Evolves.refl.setReg8 _ _) h
  case ldRegImm => rw [exec_ldRegImm] at h; exact evolves_next (State.Evolves.refl.setReg8 _ _) h
  case ldRegAtHL => rw [exec_ldRegAtHL] at h; exact loadFrom_evolves h
  case ldAtHLReg => rw [exec_ldAtHLReg] at h; exact storeTo_evolves h
  case ldPairImm => rw [exec_ldPairImm] at h; exact evolves_next (State.Evolves.refl.setPair _ _) h
  case incPair => rw [exec_incPair] at h; exact evolves_next (State.Evolves.refl.setPair _ _) h
  case decPair => rw [exec_decPair] at h; exact evolves_next (State.Evolves.refl.setPair _ _) h
  case addHLPair =>
    rw [exec_addHLPair] at h; exact evolves_next ((State.Evolves.refl.setPair .hl _).setFlags _ _ _ _) h
  case push => rw [exec_push] at h; exact push16_evolves .refl (fun _ _ => evolves_next) h
  case pop => rw [exec_pop] at h; exact pop16_evolves .refl (fun _ _ _ hu => evolves_next (hu.setStackPair _ _)) h
  case alu => rw [exec_alu] at h; exact readOperand8_evolves (fun v _ => evolves_next (applyAlu_evolves _ v)) h
  case aluImm => rw [exec_aluImm] at h; exact evolves_next (applyAlu_evolves _ _) h
  case inc => rw [exec_inc] at h; exact readOperand8_evolves (fun _ _ => writeBack_evolves) h
  case dec => rw [exec_dec] at h; exact readOperand8_evolves (fun _ _ => writeBack_evolves) h
  case rot => rw [exec_rot] at h; exact rotOperand_evolves h
  case bit => rw [exec_bit] at h; exact readOperand8_evolves (fun _ _ => evolves_next (State.Evolves.refl.setFlags _ _ _ _)) h
  case res => rw [exec_res] at h; exact bitReset_evolves h
  case set => rw [exec_set] at h; exact bitSet_evolves h
  case jpCond =>
    rw [exec_jpCond, jumpIf] at h
    split at h
    · exact evolves_next (State.Evolves.refl.setPc _) h
    · exact evolves_next .refl h
  case jrCond =>
    rw [exec_jrCond, jumpIf] at h
    split at h
    · exact evolves_next (State.Evolves.refl.setPc _) h
    · exact evolves_next .refl h
  case callCond =>
    rw [exec_callCond, callIf] at h
    split at h
    · exact call_evolves h
    · exact evolves_next .refl h
  case retCond =>
    rw [exec_retCond, retIf] at h
    split at h
    · exact ret_evolves h
    · exact evolves_next .refl h
  case rst => rw [exec_rst] at h; exact call_evolves h
  case undefinedOp u => cases u <;> exact raiseFault_evolves .refl h
  case ld_atA16_SP => exact writeWord_evolves .refl (fun _ _ => evolves_next) h
  case stop => exact evolves_next .refl h
  case jr_r8 => exact evolves_next (State.Evolves.refl.setPc _) h
  case ld_atHL_d8 => exact storeTo_evolves h
  case jp_a16 => exact evolves_next (State.Evolves.refl.setPc _) h
  case call_a16 => exact call_evolves h
  case ldh_atA8_A => exact storeTo_evolves h
  case add_SP_r8 => exact evolves_next ((State.Evolves.refl.setSp _).setFlags _ _ _ _) h
  case ld_atA16_A => exact storeTo_evolves h
  case ldh_A_atA8 => exact loadFrom_evolves h
  case ld_HL_SPr8 => exact evolves_next ((State.Evolves.refl.setPair .hl _).setFlags _ _ _ _) h
  case ld_A_atA16 => exact loadFrom_evolves h
  case nop => exact evolves_next .refl h
  case ld_atBC_A => exact storeTo_evolves h
  case ld_A_atBC => exact loadFrom_evolves h
  case ld_atDE_A => exact storeTo_evolves h
  case ld_A_atDE => exact loadFrom_evolves h
  case ld_atHLI_A => exact storeStep_evolves h
  case ld_A_atHLI => exact loadStep_evolves h
  case ld_atHLD_A => exact storeStep_evolves h
  case ld_A_atHLD => exact loadStep_evolves h
  case ld_atC_A => exact storeTo_evolves h
  case ld_A_atC => exact loadFrom_evolves h
  case rlca | rrca | rla | rra | daa | cpl => exact evolves_next ((State.Evolves.refl.setReg8 .a _).setFlags _ _ _ _) h
  case scf | ccf => exact evolves_next (State.Evolves.refl.setFlags _ _ _ _) h
  case halt => exact evolves_next .refl h
  case ret => exact ret_evolves h
  case reti => exact returnFromInterrupt_evolves h
  case jp_HL => exact evolves_next (State.Evolves.refl.setPc _) h
  case di => exact evolves_next (State.Evolves.refl.ime false) h
  case ei => exact evolves_next (State.Evolves.refl.ime true) h
  case ld_SP_HL => exact evolves_next (State.Evolves.refl.setSp _) h

/-! ## The CPU step -/

theorem fetchByte_evolves {k : Byte → State → Out} (h : s.Evolves u)
    (hk : ∀ v u' t, s.Evolves u' → k v u' = .next t → s.Evolves t) (ht : fetchByte u k = .next t) : s.Evolves t :=
  readByte_evolves h (fun v t => hk v _ t (h.setPc _)) ht

theorem exec_evolves_from (i : Instr) (h : s.Evolves u) (ht : exec i u = .next t) : s.Evolves t :=
  h.trans (exec_evolves i ht)

theorem fetchExecute_evolves (h : fetchExecute s = .next t) : s.Evolves t := by
  refine fetchByte_evolves .refl (fun op _ t h1 h => ?_) h
  split at h
  · exact exec_evolves_from _ h1 h
  · exact fetchByte_evolves h1 (fun _ _ _ h2 => exec_evolves_from _ h2) h
  · exact fetchByte_evolves h1 (fun _ _ _ h2 => fetchByte_evolves h2 fun _ _ _ h3 => exec_evolves_from _ h3) h
  · exact fetchByte_evolves h1 (fun _ _ _ h2 => exec_evolves_from _ h2) h

/-- EVERYTHING A CPU STEP CAN DO: an evolution of the acknowledged state, or of the state with the history appended. -/
theorem cpuStep_evolves (h : cpuStep s = .next t) :
    (s.interruptTaken = true ∧ s.acknowledge.Evolves t) ∨ (s.interruptTaken = false ∧ s.historyAppend.Evolves t) := by
  unfold cpuStep at h
  split at h
  case isTrue hi => exact .inl ⟨hi, push16_evolves .refl (fun _ _ hu => evolves_next (hu.setPc _)) h⟩
  case isFalse hi => exact .inr ⟨by simpa using hi, fetchExecute_evolves h⟩

end

/-! ## No instruction stops -/

/-- `o` is a next state. -/
def Completes (o : Out) : Prop := ∃ t, o = .next t

theorem completes_next (s : State) : Completes (.next s) := ⟨s, rfl⟩

theorem readByte_completes {s : State} {a : Word} {k : Byte → Out} (hk : ∀ v, Completes (k v)) :
    Completes (readByte s a k) := by
  unfold readByte
  split
  · exact hk _
  · exact completes_next _

theorem writeByte_completes {s : State} {a : Word} {v : Byte} {k : State → Out} (hk : ∀ u, Completes (k u)) :
    Completes (writeByte s a v k) := by
  unfold writeByte
  split
  · exact hk _
  · exact completes_next _

theorem writeWord_completes {s : State} {a w : Word} {k : State → Out} (hk : ∀ u, Completes (k u)) :
    Completes (writeWord s a w k) := writeByte_completes fun _ => writeByte_completes hk

theorem pop16_completes {s : State} {k : Word → State → Out} (hk : ∀ w u, Completes (k w u)) :
    Completes (pop16 s k) := readByte_completes fun _ => readByte_completes fun _ => hk _ _

theorem readOperand8_completes {s : State} {o : Operand8} {k : Byte → Out} (hk : ∀ v, Completes (k v)) :
    Completes (readOperand8 o s k) := by
  cases o with
  | reg r => exact hk _
  | atHL => exact readByte_completes hk

theorem writeOperand8_completes {s : State} {o : Operand8} {v : Byte} {k : State → Out} (hk : ∀ u, Completes (k u)) :
    Completes (writeOperand8 o v s k) := by
  cases o with
  | reg r => exact hk _
  | atHL => exact writeByte_completes hk

theorem call_completes (a : Word) (s : State) : Completes (call a s) := writeWord_completes fun _ => completes_next _

theorem ret_completes (s : State) : Completes (ret s) := pop16_completes fun _ _ => completes_next _

theorem loadFrom_completes (dst : Reg8) (a : Word) (s : State) : Completes (loadFrom dst a s) :=
  readByte_completes fun _ => completes_next _

theorem storeTo_completes (a : Word) (v : Byte) (s : State) : Completes (storeTo a v s) :=
  writeByte_completes fun _ => completes_next _

theorem returnFromInterrupt_completes (s : State) : Completes (returnFromInterrupt s) :=
  pop16_completes fun v u => completes_next ((u.setPc v).setIme true)

/-- EVERY INSTRUCTION ANSWERS A NEXT STATE, in every state (log 1). -/
theorem exec_completes (i : Instr) : ∀ s : State, Completes (exec i s) := by
  induction i using Instr.by_family <;> intro s
  case ldRegAtHL => rw [exec_ldRegAtHL]; exact loadFrom_completes _ _ _
  case ldAtHLReg => rw [exec_ldAtHLReg]; exact storeTo_completes _ _ _
  case ldRegReg => rw [exec_ldRegReg]; exact completes_next _
  case ldRegImm => rw [exec_ldRegImm]; exact completes_next _
  case ldPairImm => rw [exec_ldPairImm]; exact completes_next _
  case incPair => rw [exec_incPair]; exact completes_next _
  case decPair => rw [exec_decPair]; exact completes_next _
  case addHLPair => rw [exec_addHLPair]; exact completes_next _
  case push => rw [exec_push]; exact writeWord_completes fun _ => completes_next _
  case pop => rw [exec_pop]; exact pop16_completes fun _ _ => completes_next _
  case alu => rw [exec_alu]; exact readOperand8_completes fun _ => completes_next _
  case aluImm => rw [exec_aluImm]; exact completes_next _
  case inc => rw [exec_inc]; exact readOperand8_completes fun _ => writeOperand8_completes fun _ => completes_next _
  case dec => rw [exec_dec]; exact readOperand8_completes fun _ => writeOperand8_completes fun _ => completes_next _
  case rot => rw [exec_rot]; exact readOperand8_completes fun _ => writeOperand8_completes fun _ => completes_next _
  case bit => rw [exec_bit]; exact readOperand8_completes fun _ => completes_next _
  case res => rw [exec_res]; exact readOperand8_completes fun _ => writeOperand8_completes fun _ => completes_next _
  case set => rw [exec_set]; exact readOperand8_completes fun _ => writeOperand8_completes fun _ => completes_next _
  case jpCond => rw [exec_jpCond, jumpIf]; split <;> exact completes_next _
  case jrCond => rw [exec_jrCond, jumpIf]; split <;> exact completes_next _
  case callCond =>
    rw [exec_callCond, callIf]
    split
    · exact call_completes _ _
    · exact completes_next _
  case retCond =>
    rw [exec_retCond, retIf]
    split
    · exact ret_completes _
    · exact completes_next _
  case rst => rw [exec_rst]; exact call_completes _ _
  case undefinedOp u => cases u <;> exact completes_next _
  case ld_atA16_SP => exact writeWord_completes fun _ => completes_next _
  case call_a16 => exact call_completes _ _
  case ret => exact ret_completes _
  case reti => exact returnFromInterrupt_completes _
  case ld_atHL_d8 | ldh_atA8_A | ld_atA16_A | ld_atBC_A | ld_atDE_A | ld_atC_A => exact storeTo_completes _ _ _
  case ldh_A_atA8 | ld_A_atA16 | ld_A_atBC | ld_A_atDE | ld_A_atC => exact loadFrom_completes _ _ _
  case ld_atHLI_A | ld_atHLD_A => exact writeByte_completes fun _ => completes_next _
  case ld_A_atHLI | ld_A_atHLD => exact readByte_completes fun _ => completes_next _
  all_goals exact completes_next _

/-! ## Devices -/

/-- One timer cycle writes the timer and IF alone. -/
theorem timerCycle_eq (s : State) :
    timerCycle s = { s with
      timer := s.timer.cycle
      iflag := if s.timer.overflows then s.iflag ||| bitMask timerBit else s.iflag } := by
  unfold timerCycle State.raiseIf
  split <;> rfl

/-- `timer_step(n)` writes the timer and IF alone. -/
theorem timerStep_eq (n : Nat) (s : State) :
    timerStep n s = { s with timer := (timerStep n s).timer, iflag := (timerStep n s).iflag } := by
  induction n generalizing s with
  | zero => rfl
  | succ n ih =>
    show timerStep n (timerCycle s) = _
    rw [ih (timerCycle s)]
    simp only [timerCycle_eq, timerStep]

/-- One PPU step writes the PPU and IF alone. -/
theorem ppuStep_eq (s : State) :
    ppuStep s = { s with ppu := ppuAfter s.vram s.ppu, iflag := (ppuStep s).iflag } := by
  unfold ppuStep State.raiseIf
  split <;> split <;> rfl

/-! ## The driver -/

/-- The start of a reference round changes the joypad's latches and the driver's inputs alone. -/
theorem roundStart_eq (inputs : List (List InputEvent)) (s : State) :
    roundStart inputs s = { s with joypad := (roundStart inputs s).joypad, driver := .reference inputs.tail } := rfl

/-- The start of a reference round keeps the invariant, which speaks of neither. -/
theorem roundStart_inv {inputs : List (List InputEvent)} {s : State} (h : s.Inv) : (roundStart inputs s).Inv :=
  ⟨h.fLow, h.history, h.wram, h.hram, h.vram, h.bootRom, h.rom, h.eram, h.header, h.variant, h.bank, h.statLow, h.line,
    h.dot, h.fb, h.fbCells⟩

/-- The CPU step of a reference round is a CPU step, with its device actions pending unless it faulted. -/
theorem referenceCpuStep_next {s t : State} (h : referenceCpuStep s = .next t) :
    ∃ u, cpuStep s = .next u ∧
      ((u.status = .running ∧ t = u.setQueue (deviceActions (stepCycles s))) ∨ (u.status ≠ .running ∧ t = u)) := by
  unfold referenceCpuStep at h
  split at h
  case h_1 u hu =>
    split at h <;> cases h
    case h_1 hs => exact ⟨_, hu, .inl ⟨hs, rfl⟩⟩
    case h_2 hs => exact ⟨_, hu, .inr ⟨by rw [hs]; exact Status.noConfusion, rfl⟩⟩
  all_goals cases h

/-- EVERYTHING A STEP CAN DO: a pending action, a CPU step, or a round of the reference schedule. -/
theorem step_next {s t : State} (h : step s = .next t) :
    s.status = .running ∧
      ((∃ a rest, s.queue = a :: rest ∧ perform a (s.setQueue rest) = .next t) ∨
       (s.queue = [] ∧ s.driver = .host ∧ cpuStep s = .next t) ∨
       (∃ inputs u, s.queue = [] ∧ s.driver = .reference inputs ∧ cpuStep (roundStart inputs s) = .next u ∧
         ((u.status = .running ∧ t = u.setQueue (deviceActions (stepCycles (roundStart inputs s)))) ∨
          (u.status ≠ .running ∧ t = u)))) := by
  unfold step at h
  split at h
  case h_2 => cases h
  case h_1 hr =>
    refine ⟨hr, ?_⟩
    unfold driverStep at h
    split at h
    case h_1 a rest hq => exact .inl ⟨a, rest, hq, h⟩
    case h_2 hq =>
      split at h
      case h_1 hd => exact .inr (.inl ⟨hq, hd, h⟩)
      case h_2 inputs hd =>
        obtain ⟨u, hu, ht⟩ := referenceCpuStep_next h
        exact .inr (.inr ⟨inputs, u, hq, hd, hu, ht⟩)

end Sys2Proof.Machine
end

