-- ==== Sys2Proof/Laws/Operands.lean ====
section
/-! SUPPORT. The laws of the operand forms and of the flag writes: what reading an operand gives, and what writing one
leaves, register or `(HL)`. -/

namespace Sys2Proof.Machine

section
variable (s : State) (r : Reg8) (v : Byte) (z n h c : Bool)

/-- Writing the flags writes F alone. -/
theorem State.setFlags_record : s.setFlags z n h c = { s with regs := { s.regs with f := packFlags z n h c } } := by
  cases z <;> cases n <;> cases h <;> cases c <;> rfl

theorem setReg8_writesReg : WritesReg s (s.setReg8 r v) r v s.regs.f :=
  ⟨Regs.get8_set8_self _ _ _, fun _ hx => Regs.get8_set8_ne _ _ _ _ hx, Regs.set8_f _ _ _, Regs.set8_sp _ _ _,
    Regs.set8_pc _ _ _, rfl⟩

theorem setReg8_setFlags_writesReg : WritesReg s ((s.setReg8 r v).setFlags z n h c) r v (packFlags z n h c) where
  value := by show ((s.regs.set8 r v).setFlags z n h c).get8 r = v; simp
  others x hx := by show ((s.regs.set8 r v).setFlags z n h c).get8 x = _; simp [Regs.get8_set8_ne _ _ _ _ hx]
  flags := Regs.setFlags_f _ _ _ _ _
  sp := Regs.set8_sp _ _ _
  pc := Regs.set8_pc _ _ _
  rest := rfl

/-- Reading an operand gives its value (R10). -/
theorem readOperand8_reads {s : State} {o : Operand8} {v : Byte} (h : OperandReads s o v) (k : Byte → Out) :
    readOperand8 o s k = k v := by
  cases o with
  | reg r => exact congrArg k h
  | atHL => exact readByte_ok h

/-- Writing an operand and no flag (R10). -/
theorem writeOperand8_writes (o : Operand8) :
    WritesOperand s o v s.regs.f (writeOperand8 o v s fun s1 => .next s1) := by
  cases o with
  | reg r => exact ⟨_, rfl, setReg8_writesReg s r v⟩
  | atHL =>
    intro t ht
    rw [writeOperand8]
    dsimp only
    rw [writeByte_ok (a := s.regs.hl) ht, ← (busWrite_frame ht).regs]

/-- Writing an operand, then the flags (R10, R102). -/
theorem writeOperand8_setFlags_writes (o : Operand8) :
    WritesOperand s o v (packFlags z n h c) (writeOperand8 o v s fun s1 => .next (s1.setFlags z n h c)) := by
  cases o with
  | reg r => exact ⟨_, rfl, setReg8_setFlags_writesReg s r v z n h c⟩
  | atHL =>
    intro t ht
    rw [writeOperand8]
    dsimp only
    rw [writeByte_ok (a := s.regs.hl) ht, State.setFlags_record]

end

end Sys2Proof.Machine
end

