-- ==== Sys2Proof/Tests/Slice0.lean ====
section
/-! SUPPORT. The model's own tests: the ill-formed terms that WellFormed refuses; every constructor's word, written bit by
bit from the encodings of spec/; single steps whose results are those of spec/95_test_vectors.md; and, for every
obligation with hypotheses, a concrete state and operands that meet them. -/

open Sys2Proof Sys2Proof.Machine

namespace Sys2Proof.Tests

/-! ## WellFormed: each of its eleven checks refuses its term (R312) -/

theorem test_wf_refuses_D3 : ¬ WellFormed .undefined_D3 := by decide
theorem test_wf_refuses_DB : ¬ WellFormed .undefined_DB := by decide
theorem test_wf_refuses_DD : ¬ WellFormed .undefined_DD := by decide
theorem test_wf_refuses_E3 : ¬ WellFormed .undefined_E3 := by decide
theorem test_wf_refuses_E4 : ¬ WellFormed .undefined_E4 := by decide
theorem test_wf_refuses_EB : ¬ WellFormed .undefined_EB := by decide
theorem test_wf_refuses_EC : ¬ WellFormed .undefined_EC := by decide
theorem test_wf_refuses_ED : ¬ WellFormed .undefined_ED := by decide
theorem test_wf_refuses_F4 : ¬ WellFormed .undefined_F4 := by decide
theorem test_wf_refuses_FC : ¬ WellFormed .undefined_FC := by decide
theorem test_wf_refuses_FD : ¬ WellFormed .undefined_FD := by decide
theorem test_wf_accepts_defined : WellFormed .nop ∧ WellFormed (.stop 0xFF) ∧ WellFormed (.jp_a16 0xFFFF) := by decide

/-! ## Decoding: the words, from the operand fields R301 to R307 and the "Encoding" line of each instruction's rule -/

/-- The code of a register in a field `r` (R301). -/
def regCode : Reg8 → BitVec 3
  | .b => 0b000
  | .c => 0b001
  | .d => 0b010
  | .e => 0b011
  | .h => 0b100
  | .l => 0b101
  | .a => 0b111

/-- The code of a register or `(HL)` (R301). -/
def operandCode : Operand8 → BitVec 3
  | .reg r => regCode r
  | .atHL => 0b110

/-- R302. -/
def pairCode : Pair → BitVec 2
  | .bc => 0b00
  | .de => 0b01
  | .hl => 0b10
  | .sp => 0b11

/-- R303. -/
def stackCode : StackPair → BitVec 2
  | .bc => 0b00
  | .de => 0b01
  | .hl => 0b10
  | .af => 0b11

/-- R304. -/
def condCode : Cond → BitVec 2
  | .nz => 0b00
  | .z => 0b01
  | .nc => 0b10
  | .c => 0b11

/-- R305. -/
def aluCode : AluOp → BitVec 3
  | .add => 0b000
  | .adc => 0b001
  | .sub => 0b010
  | .sbc => 0b011
  | .and => 0b100
  | .xor => 0b101
  | .or => 0b110
  | .cp => 0b111

/-- R306. -/
def rotCode : RotOp → BitVec 3
  | .rlc => 0b000
  | .rrc => 0b001
  | .rl => 0b010
  | .rr => 0b011
  | .sla => 0b100
  | .sra => 0b101
  | .swap => 0b110
  | .srl => 0b111

/-- R400: `01 ddd sss`. -/
theorem test_decode_ld_r_r (dst src : Reg8) (t : List Byte) :
    decode ((0b01#2 ++ regCode dst ++ regCode src) :: t) = .ok (Instr.ldRegReg dst src, t) := by
  cases dst <;> cases src <;> rfl

/-- R401: `00 ddd 110` + d8. -/
theorem test_decode_ld_r_d8 (dst : Reg8) (v : Byte) (t : List Byte) :
    decode ((0b00#2 ++ regCode dst ++ 0b110#3) :: v :: t) = .ok (Instr.ldRegImm v dst, t) := by
  cases dst <;> rfl

/-- R402: `01 ddd 110`. -/
theorem test_decode_ld_r_atHL (dst : Reg8) (t : List Byte) :
    decode ((0b01#2 ++ regCode dst ++ 0b110#3) :: t) = .ok (Instr.ldRegAtHL dst, t) := by
  cases dst <;> rfl

/-- R403: `01110 sss`. -/
theorem test_decode_ld_atHL_r (s : Reg8) (t : List Byte) :
    decode ((0b01110#5 ++ regCode s) :: t) = .ok (Instr.ldAtHLReg s, t) := by
  cases s <;> rfl

/-- R404 to R410: 0x36 + d8, `000p 1010`, `000p 0010`, 0x2A, 0x3A, 0x22, 0x32. -/
theorem test_decode_indirect_loads (v : Byte) (t : List Byte) :
    decode (0b00110110#8 :: v :: t) = .ok (.ld_atHL_d8 v, t) ∧
    decode (0b00001010#8 :: t) = .ok (.ld_A_atBC, t) ∧ decode (0b00011010#8 :: t) = .ok (.ld_A_atDE, t) ∧
    decode (0b00000010#8 :: t) = .ok (.ld_atBC_A, t) ∧ decode (0b00010010#8 :: t) = .ok (.ld_atDE_A, t) ∧
    decode (0b00101010#8 :: t) = .ok (.ld_A_atHLI, t) ∧ decode (0b00111010#8 :: t) = .ok (.ld_A_atHLD, t) ∧
    decode (0b00100010#8 :: t) = .ok (.ld_atHLI_A, t) ∧ decode (0b00110010#8 :: t) = .ok (.ld_atHLD_A, t) :=
  ⟨rfl, rfl, rfl, rfl, rfl, rfl, rfl, rfl, rfl⟩

/-- R411 to R416: 0xFA and 0xEA + lo + hi, 0xF0 and 0xE0 + a8, 0xF2, 0xE2. -/
theorem test_decode_absolute_loads (v : Byte) (t : List Byte) :
    decode (0b11111010#8 :: 0x34 :: 0x12 :: t) = .ok (.ld_A_atA16 0x1234, t) ∧
    decode (0b11101010#8 :: 0x34 :: 0x12 :: t) = .ok (.ld_atA16_A 0x1234, t) ∧
    decode (0b11110000#8 :: v :: t) = .ok (.ldh_A_atA8 v, t) ∧
    decode (0b11100000#8 :: v :: t) = .ok (.ldh_atA8_A v, t) ∧
    decode (0b11110010#8 :: t) = .ok (.ld_A_atC, t) ∧ decode (0b11100010#8 :: t) = .ok (.ld_atC_A, t) :=
  ⟨rfl, rfl, rfl, rfl, rfl, rfl⟩

/-- R451: `00dd 0001` + lo + hi. -/
theorem test_decode_ld_rr_d16 (p : Pair) (t : List Byte) :
    decode ((0b00#2 ++ pairCode p ++ 0b0001#4) :: 0x34 :: 0x12 :: t) = .ok (Instr.ldPairImm 0x1234 p, t) := by
  cases p <;> rfl

/-- R452 to R454: 0x08 + lo + hi, 0xF9, 0xF8 + r8. -/
theorem test_decode_sp_loads (v : Byte) (t : List Byte) :
    decode (0b00001000#8 :: 0x34 :: 0x12 :: t) = .ok (.ld_atA16_SP 0x1234, t) ∧
    decode (0b11111001#8 :: t) = .ok (.ld_SP_HL, t) ∧ decode (0b11111000#8 :: v :: t) = .ok (.ld_HL_SPr8 v, t) :=
  ⟨rfl, rfl, rfl⟩

/-- R455 to R457: `11qq 0101` and `11qq 0001`. -/
theorem test_decode_push_pop (q : StackPair) (t : List Byte) :
    decode ((0b11#2 ++ stackCode q ++ 0b0101#4) :: t) = .ok (Instr.push q, t) ∧
    decode ((0b11#2 ++ stackCode q ++ 0b0001#4) :: t) = .ok (Instr.pop q, t) := by
  cases q <;> exact ⟨rfl, rfl⟩

/-- R502 to R510: `10 ooo sss` and `11 ooo 110` + d8. -/
theorem test_decode_alu (o : AluOp) (x : Operand8) (v : Byte) (t : List Byte) :
    decode ((0b10#2 ++ aluCode o ++ operandCode x) :: t) = .ok (Instr.alu o x, t) ∧
    decode ((0b11#2 ++ aluCode o ++ 0b110#3) :: v :: t) = .ok (Instr.aluImm v o, t) := by
  cases o <;> cases x with
  | reg r => cases r <;> exact ⟨rfl, rfl⟩
  | atHL => exact ⟨rfl, rfl⟩

/-- R511 to R514: `00ddd100` and `00ddd101`, 0x34 and 0x35 for `(HL)`. -/
theorem test_decode_inc_dec (x : Operand8) (t : List Byte) :
    decode ((0b00#2 ++ operandCode x ++ 0b100#3) :: t) = .ok (Instr.inc x, t) ∧
    decode ((0b00#2 ++ operandCode x ++ 0b101#3) :: t) = .ok (Instr.dec x, t) := by
  cases x with
  | reg r => cases r <;> exact ⟨rfl, rfl⟩
  | atHL => exact ⟨rfl, rfl⟩

/-- R551 to R553: `00dd 0011`, `00dd 1011`, `00dd 1001`; R554: 0xE8 + r8. -/
theorem test_decode_alu16 (p : Pair) (v : Byte) (t : List Byte) :
    decode ((0b00#2 ++ pairCode p ++ 0b0011#4) :: t) = .ok (Instr.incPair p, t) ∧
    decode ((0b00#2 ++ pairCode p ++ 0b1011#4) :: t) = .ok (Instr.decPair p, t) ∧
    decode ((0b00#2 ++ pairCode p ++ 0b1001#4) :: t) = .ok (Instr.addHLPair p, t) ∧
    decode (0b11101000#8 :: v :: t) = .ok (.add_SP_r8 v, t) := by
  cases p <;> exact ⟨rfl, rfl, rfl, rfl⟩

/-- R600 to R603: 0x07, 0x0F, 0x17, 0x1F. -/
theorem test_decode_accumulator_rotates (t : List Byte) :
    decode (0b00000111#8 :: t) = .ok (.rlca, t) ∧ decode (0b00001111#8 :: t) = .ok (.rrca, t) ∧
    decode (0b00010111#8 :: t) = .ok (.rla, t) ∧ decode (0b00011111#8 :: t) = .ok (.rra, t) :=
  ⟨rfl, rfl, rfl, rfl⟩

/-- R604 to R611: `CB 00 ooo zzz`. -/
theorem test_decode_rot (o : RotOp) (x : Operand8) (t : List Byte) :
    decode (0xCB#8 :: (0b00#2 ++ rotCode o ++ operandCode x) :: t) = .ok (Instr.rot o x, t) := by
  cases o <;> cases x with
  | reg r => cases r <;> rfl
  | atHL => rfl

/-- R650 to R652: `CB 01 bbb zzz`, `CB 10 bbb zzz`, `CB 11 bbb zzz`. -/
theorem test_decode_bit_res_set (b : Fin 8) (x : Operand8) (t : List Byte) :
    decode (0xCB#8 :: (0b01#2 ++ BitVec.ofNat 3 b.val ++ operandCode x) :: t) = .ok (Instr.bit b x, t) ∧
    decode (0xCB#8 :: (0b10#2 ++ BitVec.ofNat 3 b.val ++ operandCode x) :: t) = .ok (Instr.res b x, t) ∧
    decode (0xCB#8 :: (0b11#2 ++ BitVec.ofNat 3 b.val ++ operandCode x) :: t) = .ok (Instr.set b x, t) := by
  fin_cases b <;> cases x with
  | reg r => cases r <;> exact ⟨rfl, rfl, rfl⟩
  | atHL => exact ⟨rfl, rfl, rfl⟩

/-- R701, R704, R706, R708: `110cc010`, `001cc000`, `110cc100`, `110cc000`. -/
theorem test_decode_conditional (cc : Cond) (v : Byte) (t : List Byte) :
    decode ((0b110#3 ++ condCode cc ++ 0b010#3) :: 0x34 :: 0x12 :: t) = .ok (Instr.jpCond 0x1234 cc, t) ∧
    decode ((0b001#3 ++ condCode cc ++ 0b000#3) :: v :: t) = .ok (Instr.jrCond v cc, t) ∧
    decode ((0b110#3 ++ condCode cc ++ 0b100#3) :: 0x34 :: 0x12 :: t) = .ok (Instr.callCond 0x1234 cc, t) ∧
    decode ((0b110#3 ++ condCode cc ++ 0b000#3) :: t) = .ok (Instr.retCond cc, t) := by
  cases cc <;> exact ⟨rfl, rfl, rfl, rfl⟩

/-- R700, R702, R703, R705, R707, R709: 0xC3, 0xE9, 0x18, 0xCD, 0xC9, 0xD9. -/
theorem test_decode_control (v : Byte) (t : List Byte) :
    decode (0b11000011#8 :: 0x34 :: 0x12 :: t) = .ok (.jp_a16 0x1234, t) ∧
    decode (0b11101001#8 :: t) = .ok (.jp_HL, t) ∧ decode (0b00011000#8 :: v :: t) = .ok (.jr_r8 v, t) ∧
    decode (0b11001101#8 :: 0x34 :: 0x12 :: t) = .ok (.call_a16 0x1234, t) ∧
    decode (0b11001001#8 :: t) = .ok (.ret, t) ∧ decode (0b11011001#8 :: t) = .ok (.reti, t) :=
  ⟨rfl, rfl, rfl, rfl, rfl, rfl⟩

/-- R710: `11ttt111`. -/
theorem test_decode_rst (n : Fin 8) (t : List Byte) :
    decode ((0b11#2 ++ BitVec.ofNat 3 n.val ++ 0b111#3) :: t) = .ok (Instr.rst n, t) := by
  fin_cases n <;> rfl

/-- R750 to R758: 0x27, 0x2F, 0x37, 0x3F, 0x00, 0x76, 0x10 + one byte, 0xF3, 0xFB. -/
theorem test_decode_misc (v : Byte) (t : List Byte) :
    decode (0b00100111#8 :: t) = .ok (.daa, t) ∧ decode (0b00101111#8 :: t) = .ok (.cpl, t) ∧
    decode (0b00110111#8 :: t) = .ok (.scf, t) ∧ decode (0b00111111#8 :: t) = .ok (.ccf, t) ∧
    decode (0b00000000#8 :: t) = .ok (.nop, t) ∧ decode (0b01110110#8 :: t) = .ok (.halt, t) ∧
    decode (0b00010000#8 :: v :: t) = .ok (.stop v, t) ∧ decode (0b11110011#8 :: t) = .ok (.di, t) ∧
    decode (0b11111011#8 :: t) = .ok (.ei, t) :=
  ⟨rfl, rfl, rfl, rfl, rfl, rfl, rfl, rfl, rfl⟩

/-- R312: the eleven undefined opcodes, one byte each. -/
theorem test_decode_undefined (t : List Byte) :
    decode (0b11010011#8 :: t) = .ok (.undefined_D3, t) ∧ decode (0b11011011#8 :: t) = .ok (.undefined_DB, t) ∧
    decode (0b11011101#8 :: t) = .ok (.undefined_DD, t) ∧ decode (0b11100011#8 :: t) = .ok (.undefined_E3, t) ∧
    decode (0b11100100#8 :: t) = .ok (.undefined_E4, t) ∧ decode (0b11101011#8 :: t) = .ok (.undefined_EB, t) ∧
    decode (0b11101100#8 :: t) = .ok (.undefined_EC, t) ∧ decode (0b11101101#8 :: t) = .ok (.undefined_ED, t) ∧
    decode (0b11110100#8 :: t) = .ok (.undefined_F4, t) ∧ decode (0b11111100#8 :: t) = .ok (.undefined_FC, t) ∧
    decode (0b11111101#8 :: t) = .ok (.undefined_FD, t) :=
  ⟨rfl, rfl, rfl, rfl, rfl, rfl, rfl, rfl, rfl, rfl, rfl⟩

/-- The words of spec/opcode_table.json: a primary row's byte alone, a CB row's 0xCB in bits 15-8; operand bytes zero. -/
theorem test_table_words :
    decodeTableWord 8 0x3E = some (.ld_A_d8 0) ∧ decodeTableWord 8 0xC3 = some (.jp_a16 0) ∧
    decodeTableWord 16 0xCB7C = some .bit_7_H ∧ decodeTableWord 8 0xFD = some .undefined_FD := by decide

/-! ## Single steps: the vectors of spec/95_test_vectors.md, section 3 (values by the rules, not from a run) -/

/-- A register file of zeros. -/
def r0 : Regs := State.reset.regs

/-- The reset state with boot mode off, a register file, and bytes in the cartridge ROM where its PC fetches. -/
def start (r : Regs) (bytes : List Byte) : State :=
  (placeBytes { State.reset with bootMode := false, regs := r } r.pc bytes).getD State.reset

/-- A store to the bus by the test itself, between steps. -/
def put (a : Word) (v : Byte) (s : State) : State :=
  match busWrite s a v with
  | .ok t => t
  | .error _ => s

/-- The byte at a bus address. -/
def get (s : State) (a : Word) : Byte :=
  match busRead s a with
  | .ok v => v
  | .error _ => 0xEE

/-- The state after one step. -/
def after (s : State) : State :=
  match step s with
  | .next t => t
  | .fault _ => State.reset
  | .refused _ => State.reset
/-- Vector L1 (R400). -/
theorem test_vector_L1 :
    (let t := after (start { r0 with a := 0x5C } [0x47])
     t.regs.b = 0x5C ∧ t.regs.a = 0x5C ∧ t.regs.pc = 0x0001 ∧ t.regs.f = 0x00) := by decide
/-- Vector L2 (R401). -/
theorem test_vector_L2 :
    (let t := after (start r0 [0x0E, 0xA5])
     t.regs.c = 0xA5 ∧ t.regs.pc = 0x0002) := by decide
/-- Vector L3 (R402). -/
theorem test_vector_L3 :
    (let t := after (put 0xC123 0x77 (start { r0 with h := 0xC1, l := 0x23 } [0x56]))
     t.regs.d = 0x77 ∧ t.regs.pc = 0x0001) := by decide
/-- Vector L4 (R403). -/
theorem test_vector_L4 :
    (let t := after (start { r0 with h := 0xC0, l := 0x00, e := 0x9D } [0x73])
     get t 0xC000 = 0x9D) := by decide
/-- Vector L5 (R404). -/
theorem test_vector_L5 :
    (let t := after (start { r0 with h := 0xFF, l := 0x80 } [0x36, 0x3C])
     get t 0xFF80 = 0x3C ∧ t.regs.pc = 0x0002) := by decide
/-- Vector L6 (R405). -/
theorem test_vector_L6 :
    (let t := after (put 0xC010 0x11 (start { r0 with d := 0xC0, e := 0x10 } [0x1A]))
     t.regs.a = 0x11) := by decide
/-- Vector L7 (R406). -/
theorem test_vector_L7 :
    (let t := after (start { r0 with b := 0xC0, c := 0x20, a := 0x22 } [0x02])
     get t 0xC020 = 0x22) := by decide
/-- Vector L8 (R407). -/
theorem test_vector_L8 :
    (let t := after (put 0xC0FF 0x33 (start { r0 with h := 0xC0, l := 0xFF } [0x2A]))
     t.regs.a = 0x33 ∧ t.regs.h ++ t.regs.l = 0xC100#16) := by decide
/-- Vector L9 (R407). -/
theorem test_vector_L9 :
    (let t := after ({ start { r0 with h := 0xFF, l := 0xFF } [0x2A] with ie := 0x1F })
     t.regs.a = 0x1F ∧ t.regs.h ++ t.regs.l = 0x0000#16) := by decide
/-- Vector L10 (R408). -/
theorem test_vector_L10 :
    (let t := after (put 0xC000 0x44 (start { r0 with h := 0xC0, l := 0x00 } [0x3A]))
     t.regs.a = 0x44 ∧ t.regs.h ++ t.regs.l = 0xBFFF#16) := by decide
/-- Vector L11 (R409). -/
theorem test_vector_L11 :
    (let t := after (start { r0 with h := 0xC0, l := 0x00, a := 0x55 } [0x22])
     get t 0xC000 = 0x55 ∧ t.regs.h ++ t.regs.l = 0xC001#16) := by decide
/-- Vector L12 (R410). -/
theorem test_vector_L12 :
    (let t := after (start { r0 with h := 0xC0, l := 0x01, a := 0x66 } [0x32])
     get t 0xC001 = 0x66 ∧ t.regs.h ++ t.regs.l = 0xC000#16) := by decide
/-- Vector L13 (R411). -/
theorem test_vector_L13 :
    (let t := after (start { r0 with a := 0x12 } [0xFA, 0x00, 0xE0])
     t.regs.a = 0x00 ∧ t.regs.pc = 0x0003) := by decide
/-- Vector L14 (R412). -/
theorem test_vector_L14 :
    (let t := after (start { r0 with a := 0x99 } [0xEA, 0x34, 0xC2])
     get t 0xC234 = 0x99 ∧ t.regs.pc = 0x0003) := by decide
/-- Vector L15 (R413). -/
theorem test_vector_L15 :
    (let t := after (put 0xFF06 0xAB (start r0 [0xF0, 0x06]))
     t.regs.a = 0xAB) := by decide
/-- Vector L16 (R414). -/
theorem test_vector_L16 :
    (let t := after (start { r0 with a := 0x7E } [0xE0, 0x85])
     get t 0xFF85 = 0x7E) := by decide
/-- Vector L17 (R415). -/
theorem test_vector_L17 :
    (let t := after (start { r0 with c := 0x00 } [0xF2])
     t.regs.a = 0xFF) := by decide
/-- Vector L18 (R416). -/
theorem test_vector_L18 :
    (let t := after (start { r0 with c := 0x80, a := 0x01 } [0xE2])
     get t 0xFF80 = 0x01) := by decide
/-- Vector L19 (R412). -/
theorem test_vector_L19 :
    (let t := after ({ start { r0 with a := 0x5A } [0xEA, 0x04, 0xFF] with timer := ⟨0, 0x33, 0, 0, false, 0⟩ })
     t.timer.div = 0x00) := by decide
/-- Vector W1 (R451). -/
theorem test_vector_W1 :
    (let t := after (start r0 [0x01, 0x34, 0x12])
     t.regs.b ++ t.regs.c = 0x1234#16 ∧ t.regs.pc = 0x0003) := by decide
/-- Vector W3 (R452). -/
theorem test_vector_W3 :
    (let t := after (start { r0 with sp := 0xABCD } [0x08, 0x00, 0xC1])
     get t 0xC100 = 0xCD ∧ get t 0xC101 = 0xAB ∧ t.regs.pc = 0x0003) := by decide
/-- Vector W4 (R453). -/
theorem test_vector_W4 :
    (let t := after (start { r0 with h := 0xDF, l := 0xF0 } [0xF9])
     t.regs.sp = 0xDFF0) := by decide
/-- Vector W5 (R454). -/
theorem test_vector_W5 :
    (let t := after (start { r0 with sp := 0xFFF8 } [0xF8, 0x08])
     t.regs.h ++ t.regs.l = 0x0000#16 ∧ t.regs.sp = 0xFFF8 ∧ t.regs.f = 0x30) := by decide
/-- Vector W7 (R454). -/
theorem test_vector_W7 :
    (let t := after (start { r0 with sp := 0x00FF, f := 0xC0 } [0xF8, 0xFF])
     t.regs.h ++ t.regs.l = 0x00FE#16 ∧ t.regs.f = 0x30) := by decide
/-- Vector W8 (R455). -/
theorem test_vector_W8 :
    (let t := after (start { r0 with sp := 0xFFFE, b := 0x12, c := 0x34 } [0xC5])
     t.regs.sp = 0xFFFC ∧ get t 0xFFFC = 0x34 ∧ get t 0xFFFD = 0x12) := by decide
/-- Vector W9 (R456). -/
theorem test_vector_W9 :
    (let t := after (put 0xFFFD 0x12 (put 0xFFFC 0x34 (start { r0 with sp := 0xFFFC } [0xD1])))
     t.regs.d ++ t.regs.e = 0x1234#16 ∧ t.regs.sp = 0xFFFE) := by decide
/-- Vector W10 (R457). -/
theorem test_vector_W10 :
    (let t := after (put 0xC001 0x12 (put 0xC000 0xFF (start { r0 with sp := 0xC000 } [0xF1])))
     t.regs.a = 0x12 ∧ t.regs.f = 0xF0 ∧ t.regs.sp = 0xC002) := by decide
/-- Vector W11 (R455). -/
theorem test_vector_W11 :
    (let t := after (start { r0 with sp := 0x0001, h := 0xBE, l := 0xEF } [0xE5])
     t.regs.sp = 0xFFFF ∧ t.ie = 0xEF) := by decide
/-- Vector W12 (R455). -/
theorem test_vector_W12 :
    (let t := after (start { r0 with sp := 0xD000, a := 0x01, f := 0xB0 } [0xF5])
     get t 0xCFFE = 0xB0 ∧ get t 0xCFFF = 0x01) := by decide
/-- Vector A1 (R503). -/
theorem test_vector_A1 :
    (let t := after (start { r0 with a := 0x3A, b := 0xC6 } [0x80])
     t.regs.a = 0x00 ∧ t.regs.f = 0xB0) := by decide
/-- Vector A3 (R503). -/
theorem test_vector_A3 :
    (let t := after (start { r0 with a := 0x88 } [0x87])
     t.regs.a = 0x10 ∧ t.regs.f = 0x30) := by decide
/-- Vector A4 (R504). -/
theorem test_vector_A4 :
    (let t := after (start { r0 with a := 0xE1, e := 0x0F, f := 0x10 } [0x8B])
     t.regs.a = 0xF1 ∧ t.regs.f = 0x20) := by decide
/-- Vector A5 (R504). -/
theorem test_vector_A5 :
    (let t := after (start { r0 with a := 0xFF, f := 0x10 } [0xCE, 0x00])
     t.regs.a = 0x00 ∧ t.regs.f = 0xB0) := by decide
/-- Vector A8 (R505). -/
theorem test_vector_A8 :
    (let t := after (start { r0 with a := 0x3E, b := 0x40 } [0x90])
     t.regs.a = 0xFE ∧ t.regs.f = 0x50) := by decide
/-- Vector A10 (R506). -/
theorem test_vector_A10 :
    (let t := after (start { r0 with a := 0x10, f := 0x10 } [0xDE, 0x0F])
     t.regs.a = 0x00 ∧ t.regs.f = 0xE0) := by decide
/-- Vector A11 (R506). -/
theorem test_vector_A11 :
    (let t := after (start { r0 with a := 0x42, f := 0x10 } [0x9F])
     t.regs.a = 0xFF ∧ t.regs.f = 0x70) := by decide
/-- Vector A12 (R507). -/
theorem test_vector_A12 :
    (let t := after (start { r0 with a := 0x5A, l := 0x3F } [0xA5])
     t.regs.a = 0x1A ∧ t.regs.f = 0x20) := by decide
/-- Vector A14 (R508). -/
theorem test_vector_A14 :
    (let t := after (start { r0 with a := 0xFF, f := 0x70 } [0xAF])
     t.regs.a = 0x00 ∧ t.regs.f = 0x80) := by decide
/-- Vector A15 (R509). -/
theorem test_vector_A15 :
    (let t := after (put 0xC000 0x0F (start { r0 with a := 0x5A, h := 0xC0, l := 0x00 } [0xB6]))
     t.regs.a = 0x5F ∧ t.regs.f = 0x00) := by decide
/-- Vector A18 (R510). -/
theorem test_vector_A18 :
    (let t := after (put 0xC000 0x40 (start { r0 with a := 0x3C, h := 0xC0, l := 0x00 } [0xBE]))
     t.regs.a = 0x3C ∧ t.regs.f = 0x50) := by decide
/-- Vector A19 (R511). -/
theorem test_vector_A19 :
    (let t := after (start { r0 with a := 0x0F, f := 0x10 } [0x3C])
     t.regs.a = 0x10 ∧ t.regs.f = 0x30) := by decide
/-- Vector A21 (R512). -/
theorem test_vector_A21 :
    (let t := after (put 0xC000 0x50 (start { r0 with h := 0xC0, l := 0x00, f := 0x50 } [0x34]))
     get t 0xC000 = 0x51 ∧ t.regs.f = 0x10) := by decide
/-- Vector A23 (R513). -/
theorem test_vector_A23 :
    (let t := after (start { r0 with c := 0x01, f := 0x10 } [0x0D])
     t.regs.c = 0x00 ∧ t.regs.f = 0xD0) := by decide
/-- Vector A25 (R514). -/
theorem test_vector_A25 :
    (let t := after (put 0xC000 0x00 (start { r0 with h := 0xC0, l := 0x00 } [0x35]))
     get t 0xC000 = 0xFF ∧ t.regs.f = 0x60) := by decide
/-- Vector B1 (R551). -/
theorem test_vector_B1 :
    (let t := after (start { r0 with b := 0xFF, c := 0xFF, f := 0xF0 } [0x03])
     t.regs.b ++ t.regs.c = 0x0000#16 ∧ t.regs.f = 0xF0) := by decide
/-- Vector B2 (R552). -/
theorem test_vector_B2 :
    (let t := after (start { r0 with d := 0x00, e := 0x00 } [0x1B])
     t.regs.d ++ t.regs.e = 0xFFFF#16 ∧ t.regs.f = 0x00) := by decide
/-- Vector B4 (R553). -/
theorem test_vector_B4 :
    (let t := after (start { r0 with h := 0x8A, l := 0x23, f := 0x80 } [0x29])
     t.regs.h ++ t.regs.l = 0x1446#16 ∧ t.regs.f = 0xB0) := by decide
/-- Vector B6 (R553). -/
theorem test_vector_B6 :
    (let t := after (start { r0 with h := 0xF0, l := 0x00, d := 0x10, e := 0x00, f := 0x40 } [0x19])
     t.regs.h ++ t.regs.l = 0x0000#16 ∧ t.regs.f = 0x10) := by decide
/-- Vector B8 (R554). -/
theorem test_vector_B8 :
    (let t := after (start { r0 with sp := 0xFFF8, f := 0xF0 } [0xE8, 0x02])
     t.regs.sp = 0xFFFA ∧ t.regs.f = 0x00) := by decide
/-- Vector B10 (R554). -/
theorem test_vector_B10 :
    (let t := after (start { r0 with sp := 0x0001 } [0xE8, 0xFE])
     t.regs.sp = 0xFFFF ∧ t.regs.f = 0x00) := by decide
/-- Vector S1 (R600). -/
theorem test_vector_S1 :
    (let t := after (start { r0 with a := 0x85 } [0x07])
     t.regs.a = 0x0B ∧ t.regs.f = 0x10) := by decide
/-- Vector S3 (R601). -/
theorem test_vector_S3 :
    (let t := after (start { r0 with a := 0x3B } [0x0F])
     t.regs.a = 0x9D ∧ t.regs.f = 0x10) := by decide
/-- Vector S4 (R602). -/
theorem test_vector_S4 :
    (let t := after (start { r0 with a := 0x95, f := 0x10 } [0x17])
     t.regs.a = 0x2B ∧ t.regs.f = 0x10) := by decide
/-- Vector S5 (R603). -/
theorem test_vector_S5 :
    (let t := after (start { r0 with a := 0x81 } [0x1F])
     t.regs.a = 0x40 ∧ t.regs.f = 0x10) := by decide
/-- Vector S6 (R604). -/
theorem test_vector_S6 :
    (let t := after (start { r0 with b := 0x80 } [0xCB, 0x00])
     t.regs.b = 0x01 ∧ t.regs.f = 0x10) := by decide
/-- Vector S8 (R605). -/
theorem test_vector_S8 :
    (let t := after (start { r0 with a := 0x01 } [0xCB, 0x0F])
     t.regs.a = 0x80 ∧ t.regs.f = 0x10) := by decide
/-- Vector S9 (R606). -/
theorem test_vector_S9 :
    (let t := after (start { r0 with l := 0x80 } [0xCB, 0x15])
     t.regs.l = 0x00 ∧ t.regs.f = 0x90) := by decide
/-- Vector S10 (R607). -/
theorem test_vector_S10 :
    (let t := after (put 0xC000 0x01 (start { r0 with h := 0xC0, l := 0x00, f := 0x10 } [0xCB, 0x1E]))
     get t 0xC000 = 0x80 ∧ t.regs.f = 0x10) := by decide
/-- Vector S11 (R608). -/
theorem test_vector_S11 :
    (let t := after (start { r0 with d := 0xFF } [0xCB, 0x22])
     t.regs.d = 0xFE ∧ t.regs.f = 0x10) := by decide
/-- Vector S12 (R609). -/
theorem test_vector_S12 :
    (let t := after (start { r0 with e := 0x81 } [0xCB, 0x2B])
     t.regs.e = 0xC0 ∧ t.regs.f = 0x10) := by decide
/-- Vector S13 (R610). -/
theorem test_vector_S13 :
    (let t := after (start { r0 with a := 0xF0, f := 0x10 } [0xCB, 0x37])
     t.regs.a = 0x0F ∧ t.regs.f = 0x00) := by decide
/-- Vector S16 (R611). -/
theorem test_vector_S16 :
    (let t := after (start { r0 with b := 0x8F } [0xCB, 0x38])
     t.regs.b = 0x47 ∧ t.regs.f = 0x10) := by decide
/-- Vector T1 (R650). -/
theorem test_vector_T1 :
    (let t := after (start { r0 with h := 0x80, f := 0x10 } [0xCB, 0x7C])
     t.regs.f = 0x30) := by decide
/-- Vector T3 (R650). -/
theorem test_vector_T3 :
    (let t := after (put 0xC000 0x01 (start { r0 with h := 0xC0, l := 0x00, f := 0x50 } [0xCB, 0x46]))
     t.regs.f = 0x30) := by decide
/-- Vector T4 (R651). -/
theorem test_vector_T4 :
    (let t := after (start { r0 with a := 0xFF, f := 0xB0 } [0xCB, 0x87])
     t.regs.a = 0xFE ∧ t.regs.f = 0xB0) := by decide
/-- Vector T5 (R651). -/
theorem test_vector_T5 :
    (let t := after (put 0xC000 0xFF (start { r0 with h := 0xC0, l := 0x00 } [0xCB, 0xBE]))
     get t 0xC000 = 0x7F) := by decide
/-- Vector T6 (R652). -/
theorem test_vector_T6 :
    (let t := after (start { r0 with b := 0x00, f := 0x00 } [0xCB, 0xF8])
     t.regs.b = 0x80 ∧ t.regs.f = 0x00) := by decide
/-- Vector T7 (R652). -/
theorem test_vector_T7 :
    (let t := after (start { r0 with h := 0xC0, l := 0x00 } [0xCB, 0xDE])
     get t 0xC000 = 0x08) := by decide
/-- Vector J1 (R700). -/
theorem test_vector_J1 :
    (let t := after (start { r0 with pc := 0x0100 } [0xC3, 0x50, 0x01])
     t.regs.pc = 0x0150) := by decide
/-- Vector J2 (R701). -/
theorem test_vector_J2 :
    (let t := after (start { r0 with pc := 0x0100, f := 0x80 } [0xCA, 0x00, 0x02])
     t.regs.pc = 0x0200) := by decide
/-- Vector J3 (R701). -/
theorem test_vector_J3 :
    (let t := after (start { r0 with pc := 0x0100, f := 0x80 } [0xC2, 0x00, 0x02])
     t.regs.pc = 0x0103) := by decide
/-- Vector J4 (R702). -/
theorem test_vector_J4 :
    (let t := after (start { r0 with h := 0xC0, l := 0x00 } [0xE9])
     t.regs.pc = 0xC000) := by decide
/-- Vector J5 (R703). -/
theorem test_vector_J5 :
    (let t := after (start { r0 with pc := 0x0200 } [0x18, 0xFE])
     t.regs.pc = 0x0200) := by decide
/-- Vector J7 (R703). -/
theorem test_vector_J7 :
    (let t := after (start { r0 with pc := 0x0200 } [0x18, 0x80])
     t.regs.pc = 0x0182) := by decide
/-- Vector J8 (R704). -/
theorem test_vector_J8 :
    (let t := after (start { r0 with pc := 0x0200, f := 0x10 } [0x38, 0x10])
     t.regs.pc = 0x0212) := by decide
/-- Vector J9 (R704). -/
theorem test_vector_J9 :
    (let t := after (start { r0 with pc := 0x0200 } [0x38, 0x10])
     t.regs.pc = 0x0202) := by decide
/-- Vector J10 (R705). -/
theorem test_vector_J10 :
    (let t := after (start { r0 with pc := 0x0150, sp := 0xFFFE } [0xCD, 0x00, 0x20])
     t.regs.pc = 0x2000 ∧ t.regs.sp = 0xFFFC ∧ get t 0xFFFC = 0x53 ∧ get t 0xFFFD = 0x01) := by decide
/-- Vector J11 (R706). -/
theorem test_vector_J11 :
    (let t := after (start { r0 with pc := 0x0150, sp := 0xFFFE, f := 0x80 } [0xC4, 0x00, 0x20])
     t.regs.pc = 0x0153 ∧ t.regs.sp = 0xFFFE) := by decide
/-- Vector J12 (R707). -/
theorem test_vector_J12 :
    (let t := after (put 0xFFFD 0x01 (put 0xFFFC 0x53 (start { r0 with pc := 0x2000, sp := 0xFFFC } [0xC9])))
     t.regs.pc = 0x0153 ∧ t.regs.sp = 0xFFFE ∧ t.ime = false) := by decide
/-- Vector J13 (R708). -/
theorem test_vector_J13 :
    (let t := after (start { r0 with pc := 0x2000, sp := 0xFFFC, f := 0x00 } [0xC8])
     t.regs.pc = 0x2001 ∧ t.regs.sp = 0xFFFC) := by decide
/-- Vector J14 (R709). -/
theorem test_vector_J14 :
    (let t := after (put 0xFFFD 0x03 (put 0xFFFC 0x00 (start { r0 with pc := 0x0040, sp := 0xFFFC } [0xD9])))
     t.regs.pc = 0x0300 ∧ t.regs.sp = 0xFFFE ∧ t.ime = true) := by decide
/-- Vector J15 (R710). -/
theorem test_vector_J15 :
    (let t := after (start { r0 with pc := 0x0100, sp := 0xFFFE } [0xFF])
     t.regs.pc = 0x0038 ∧ t.regs.sp = 0xFFFC ∧ get t 0xFFFC = 0x01 ∧ get t 0xFFFD = 0x01) := by decide
/-- Vector J16 (R710). -/
theorem test_vector_J16 :
    (let t := after (start { r0 with pc := 0x0100, sp := 0xFFFE } [0xCF])
     t.regs.pc = 0x0008 ∧ t.regs.sp = 0xFFFC ∧ get t 0xFFFC = 0x01 ∧ get t 0xFFFD = 0x01) := by decide
/-- Vector M6 (R750). -/
theorem test_vector_M6 :
    (let t := after (start { r0 with a := 0x9A } [0x27])
     t.regs.a = 0x00 ∧ t.regs.f = 0x90) := by decide
/-- Vector M7 (R751). -/
theorem test_vector_M7 :
    (let t := after (start { r0 with a := 0x35, f := 0x90 } [0x2F])
     t.regs.a = 0xCA ∧ t.regs.f = 0xF0) := by decide
/-- Vector M8 (R752). -/
theorem test_vector_M8 :
    (let t := after (start { r0 with f := 0xE0 } [0x37])
     t.regs.f = 0x90) := by decide
/-- Vector M9 (R753). -/
theorem test_vector_M9 :
    (let t := after (start { r0 with f := 0x70 } [0x3F])
     t.regs.f = 0x00) := by decide
/-- Vector M11 (R754). -/
theorem test_vector_M11 :
    (let t := after (start { r0 with pc := 0x0100 } [0x00])
     t.regs.pc = 0x0101) := by decide
/-- Vector M12 (R755). -/
theorem test_vector_M12 :
    (let t := after ({ start { r0 with pc := 0x0200 } [0x76] with ie := 0x01, iflag := 0x01 })
     t.regs.pc = 0x0201 ∧ t.ime = false ∧ t.iflag = 0x01) := by decide
/-- Vector M13 (R756). -/
theorem test_vector_M13 :
    (let t := after (start { r0 with pc := 0x0200 } [0x10, 0x00])
     t.regs.pc = 0x0202) := by decide
/-- Vector M14 (R757). -/
theorem test_vector_M14 :
    (let t := after ({ start r0 [0xF3] with ime := true })
     t.ime = false) := by decide
/-- Vector I1 (R807). -/
theorem test_vector_I1 :
    (let t := after ({ start { r0 with pc := 0x0300, sp := 0xD000 } [0x00] with ime := true, ie := 0x1F, iflag := 0x16 })
     t.regs.pc = 0x0048 ∧ t.regs.sp = 0xCFFE ∧ t.iflag = 0x14 ∧ t.ime = false ∧ get t 0xCFFE = 0x00 ∧ get t 0xCFFF = 0x03) := by decide
/-- Vector I2 (R806). -/
theorem test_vector_I2 :
    (let t := after ({ start { r0 with pc := 0x0300 } [0x00] with ime := false, ie := 0x1F, iflag := 0x1F })
     t.regs.pc = 0x0301 ∧ t.iflag = 0x1F) := by decide
/-- Vector I4 (R806). -/
theorem test_vector_I4 :
    (let t := after ({ start { r0 with pc := 0x0300 } [0x00] with ime := true, ie := 0xE0, iflag := 0xE0 })
     t.regs.pc = 0x0301 ∧ t.iflag = 0xE0) := by decide
/-- Vector I5 (R808). -/
theorem test_vector_I5 :
    (let t := after ({ start { r0 with pc := 0x0300, sp := 0xD000 } [0x00] with ime := true, ie := 0x10, iflag := 0x10 })
     t.regs.pc = 0x0060 ∧ t.iflag = 0x00) := by decide
/-- Vector F1 (R312). -/
theorem test_vector_F1 :
    (let t := after (start { r0 with pc := 0x0200 } [0xD3])
     t.status = .faulted ⟨.invalidCpuInstruction, 0xD3⟩ ∧ t.regs.pc = 0x0201) := by decide
/-- Vector F3 (R222). -/
theorem test_vector_F3 :
    (let t := after (start { r0 with a := 0x01 } [0xEA, 0x00, 0xA0])
     t.status = .faulted ⟨.outOfBounds, 0xA000⟩ ∧ t.regs.pc = 0x0003) := by decide
/-- Vector F4 (R210). -/
theorem test_vector_F4 :
    (let t := after ({ start { r0 with h := 0x00, l := 0x50, pc := 0x0100 } [0x77] with bootMode := true })
     t.status = .faulted ⟨.bootRomWrite, 0x0050⟩ ∧ t.regs.pc = 0x0101) := by decide

/-! ## Devices and the loader (spec/95_test_vectors.md, section 4) -/

/-- Vector TM3 (R824): the sixteenth cycle at select 1 reloads TIMA and raises the timer interrupt. -/
theorem test_vector_TM3 :
    (let s := { start r0 [] with timer := ⟨15, 0, 0xFF, 0x42, true, 1⟩ }
     timerStep 1 s = { s with iflag := 0x04, timer := ⟨16, 0, 0x42, 0x42, true, 1⟩ }) := by decide

/-- Vector TM9 (R820): the wrap of the master clock ticks DIV and TIMA. -/
theorem test_vector_TM9 :
    (let s := { start r0 [] with timer := ⟨0xFFFFFFFF, 0, 0, 0, true, 0⟩ }
     (timerStep 1 s).timer = ⟨0, 1, 1, 0, true, 0⟩) := by decide

/-- Vector P5 (R836), its last step: line 143 to 144 enters mode 1 and raises VBlank. -/
theorem test_vector_P5 :
    (let s := { start r0 [] with ppu := { Ppu.reset with line := 143, dot := 455 } }
     get (ppuStep s) 0xFF44 = 0x90 ∧ get (ppuStep s) 0xFF41 = 0x01 ∧ (ppuStep s).iflag = 0x01) := by decide

/-- Vector P6 (R836), its last step: entering mode 0 with STAT bit 3 set raises LCD-STAT. -/
theorem test_vector_P6 :
    (let s := { start r0 [] with ppu := { Ppu.reset with dot := 251, statW := 0x08 } }
     (ppuStep s).iflag = 0x02 ∧ (ppuStep s).ppu.dot = 252) := by decide

/-- Vector P7 (R836, R837), its last step: the line becomes LYC. -/
theorem test_vector_P7 :
    (let s := { start r0 [] with ppu := { Ppu.reset with line := 4, dot := 455, lyc := 5, statW := 0x40 } }
     (ppuStep s).iflag = 0x02 ∧ get (ppuStep s) 0xFF41 = 0x46) := by decide

/-- Vector P9 (R833): signed tile ids, pixel (0,0) is slot 1. -/
theorem test_vector_P9 :
    (let s := put 0x8800 0xFF (put 0x9800 0x80
        { start r0 [] with ppu := { Ppu.reset with dot := 80, bgp := 0xE4 } })
     (ppuStep s).ppu.fb.read 0 = some 1) := by decide

/-- Vector P10 (R833): the second map and the scroll registers, pixel (0,0) is slot 2. -/
theorem test_vector_P10 :
    (let s := put 0x8027 0xFF (put 0x9C01 0x02
        { start r0 [] with ppu := { Ppu.reset with dot := 80, bgp := 0xE4, lcdc := 0x18, scx := 8, scy := 3 } })
     (ppuStep s).ppu.fb.read 0 = some 2) := by decide

/-- A cartridge with a mapper and bank counts, whose ROM holds one byte. -/
def cartridge (v : Variant) (romBanks ramBanks : Nat) (rom : Memory) : Cartridge :=
  { header := { Header.blank with variant := v, romBanks := romBanks, ramBanks := ramBanks }, rom := rom, eram := [],
    mapper := Mapper.reset v }

/-- The reset state with boot mode off and a cartridge. -/
def withCart (c : Cartridge) : State := { State.reset with bootMode := false, cart := c }

/-- Vector MB1 (R215, R217): bank 5 is seen at 0x4000; bank register 0 reads bank 1. -/
theorem test_vector_MB1 :
    (let s := withCart (cartridge .mbc1 8 0 [(0x4000, 1), (0x14000, 5)])
     get (put 0x2000 0x05 s) 0x4000 = 5 ∧ get (put 0x2000 0x00 s) 0x4000 = 1) := by decide

/-- Vector MB2 (R216): mode 1 puts bank 0x20 at 0x0000 and bank 0x22 at 0x4000. -/
theorem test_vector_MB2 :
    (let s := put 0x6000 0x01 (put 0x2000 0x02 (put 0x4000 0x01
        (withCart (cartridge .mbc1 128 0 [(0x80000, 0x20), (0x88000, 0x22)]))))
     get s 0x0000 = 0x20 ∧ get s 0x4000 = 0x22) := by decide

/-- Vector MB3 (R218): external RAM only where enabled. -/
theorem test_vector_MB3 :
    (let s := withCart (cartridge .mbc1 8 4 [])
     get (put 0xA000 0x12 s) 0xA000 = 0xFF ∧ get (put 0xA000 0x12 (put 0x1FFF 0x1A s)) 0xA000 = 0x12) := by decide

/-- Vector MB6 (R219, R221): the live RTC byte reads back only after a latch. -/
theorem test_vector_MB6 :
    (let s := put 0xA000 0x2A (put 0x4000 0x08 (put 0x0000 0x0A (withCart (cartridge .mbc3 4 4 []))))
     get s 0xA000 = 0x00 ∧ get (put 0x6000 0x00 s) 0xA000 = 0x2A) := by decide

/-- Vector BT1 (R210, R211): only 0x01 written to 0xFF50 leaves boot mode. -/
theorem test_vector_BT1 :
    (let s := { State.reset with bootRom := [(0x10, 0x10)] }
     get (put 0xFF50 0x02 s) 0x0010 = 0x10 ∧ get (put 0xFF50 0x01 s) 0x0010 = 0x00 ∧
     get (put 0xFF50 0x00 (put 0xFF50 0x01 s)) 0xFF50 = 0x01) := by decide

/-- Vector JP2 (R850, R851). -/
theorem test_vector_JP2 :
    (let s := { State.reset with joypad := ⟨0b1110, 0b1110, 3⟩ }
     get (put 0xFF00 0x20 s) 0xFF00 = 0xEE ∧ get (put 0xFF00 0x10 s) 0xFF00 = 0xDE) := by decide

/-- R904: a reference round applies its own input events before the CPU step, which reads them at JOYP (`LD A,(C)`, C = 0),
and leaves those of the next round. -/
theorem test_reference_inputs :
    (let t := after { start r0 [0xF2] with
        joypad := ⟨0xF, 0xF, 0b01⟩, driver := .reference [[.press .a, .press .start], [.release .a]] }
     t.regs.a = 0xDA ∧ t.joypad = ⟨0b1010, 0xF, 0b01⟩ ∧ t.driver = .reference [[.release .a]] ∧
     t.queue = .timer 8 :: List.replicate 8 .ppu) := by decide

/-- From reset, the very next step runs the placed instruction (log 10): `LD SP,d16` with operand bytes of zeros leaves
PC at 3, and `SET 7,A` sets bit 7 of A. -/
theorem test_withFetchWord_runs :
    (after (State.reset.withFetchWord 8 0x31)).regs.pc = 3 ∧
    (after (State.reset.withFetchWord 16 0xCBFF)).regs.a = 0x80 ∧
    (after (State.reset.withFetchWord 8 0xFD)).status = .faulted ⟨.invalidCpuInstruction, 0xFD⟩ := by decide

/-! ## Witnesses: for each obligation with hypotheses, a concrete state and operands that meet them together -/

/-- An access answers a value that passes a test. -/
def okWith {α : Type} (x : Except Trap α) (p : α → Bool) : Bool :=
  match x with
  | .ok v => p v
  | .error _ => false

/-- An access faults with `e`. -/
def failsWith {α : Type} (x : Except Trap α) (e : Trap) : Bool :=
  match x with
  | .ok _ => false
  | .error e1 => decide (e1 = e)

theorem okWith_elim {α : Type} {x : Except Trap α} {p : α → Bool} (h : okWith x p = true) :
    ∃ v, x = .ok v ∧ p v = true := by
  cases x with
  | ok v => exact ⟨v, rfl, h⟩
  | error _ => cases h

/-- A read answers this byte. -/
theorem reads {x : Except Trap Byte} {v : Byte} (h : okWith x (· == v) = true) : x = .ok v := by
  obtain ⟨w, hx, hw⟩ := okWith_elim h
  rw [hx, eq_of_beq hw]

/-- An access faults. -/
theorem fails {α : Type} {x : Except Trap α} {e : Trap} (h : failsWith x e = true) : x = .error e := by
  cases x with
  | ok _ => cases h
  | error e1 => rw [of_decide_eq_true h]

/-- A store is accepted. -/
theorem stores {x : Except Trap State} (h : okWith x (fun _ => true) = true) : ∃ t, x = .ok t :=
  (okWith_elim h).imp fun _ h => h.1

/-- Two stores are accepted, one after the other. -/
theorem stores_two {x : Except Trap State} {f : State → Except Trap State}
    (h : okWith x (fun t => okWith (f t) fun _ => true) = true) : ∃ t1 t2, x = .ok t1 ∧ f t1 = .ok t2 := by
  obtain ⟨t1, h1, h2⟩ := okWith_elim h
  obtain ⟨t2, h3, -⟩ := okWith_elim h2
  exact ⟨t1, t2, h1, h3⟩

/-- A store is accepted and the next one faults. -/
theorem stores_fails {x : Except Trap State} {f : State → Except Trap State} {e : Trap}
    (h : okWith x (fun t => failsWith (f t) e) = true) : ∃ t1, x = .ok t1 ∧ f t1 = .error e := by
  obtain ⟨t1, h1, h2⟩ := okWith_elim h
  exact ⟨t1, h1, fails h2⟩

/-- A step, an action or a meaning answers a next state that passes a test. -/
def nextWith (o : Out) (p : State → Bool) : Bool :=
  match o with
  | .next t => p t
  | .fault _ => false
  | .refused _ => false

theorem answers {o : Out} {p : State → Bool} (h : nextWith o p = true) : ∃ t, o = .next t ∧ p t = true := by
  cases o with
  | next t => exact ⟨t, rfl, h⟩
  | fault _ => cases h
  | refused _ => cases h

/-- The reset state at a position of the PPU keeps the invariant. -/
theorem inv_at (line dot : Nat) (hl : line < 154) (hd : dot < 456) :
    (State.reset.setPpu { Ppu.reset with line := line, dot := dot }).Inv := by
  exact ⟨(by decide : State.reset.regs.f &&& 0x0F = 0), (by decide : State.reset.history.length ≤ Config.histCap),
    (by decide : State.reset.wram.Fits _), (by decide : State.reset.hram.Fits _), (by decide : State.reset.vram.Fits _),
    (by decide : State.reset.bootRom.Fits _), (by decide : State.reset.cart.rom.Fits State.reset.cart.romLen),
    (by decide : State.reset.cart.eram.Fits State.reset.cart.eramLen), (⟨by decide, by decide, by decide⟩ : Header.blank.Legal), rfl, trivial,
    (by decide : Ppu.reset.statW &&& 0x07 = 0), hl, hd, (by decide : Ppu.reset.fb.wf),
    (by decide : ∀ c ∈ Ppu.reset.fb, c.1 < Config.screenWidth * Config.visibleLines)⟩

theorem test_witness_EncodeInvertsDecode : decode [0xCB, 0x7C, 0x00] = .ok (.bit_7_H, [0x00]) := rfl

/-- At the first and the last of the eleven bytes, with PC at both ends of the address space. -/
theorem test_witness_UndefinedOpcodesFault :
    (let s := start r0 [0xD3]
     s.CpuNext ∧ s.interruptTaken = false ∧ busRead s s.regs.pc = .ok 0xD3 ∧ (0xD3 : Byte) ∈ undefinedBytes) ∧
    (let s := { start r0 [] with ie := 0xFD, regs := { r0 with pc := 0xFFFF } }
     s.CpuNext ∧ s.interruptTaken = false ∧ busRead s s.regs.pc = .ok 0xFD ∧ (0xFD : Byte) ∈ undefinedBytes) ∧
    decode [0xDD] = .ok (.undefined_DD, []) :=
  ⟨⟨⟨by decide, by decide, by decide⟩, by decide, reads (by decide), by decide⟩,
   ⟨⟨by decide, by decide, by decide⟩, by decide, reads (by decide), by decide⟩, rfl⟩

/-- A three-byte instruction; and one whose second byte is read at PC + 1 = 0x0000, with IME set and nothing pending. -/
theorem test_witness_StepRunsDecodedInstruction :
    (let s := start r0 [0xC3, 0x34, 0x12]
     s.CpuNext ∧ s.ime = false ∧ decode [0xC3, 0x34, 0x12] = .ok (.jp_a16 0x1234, []) ∧
     busRead s (s.regs.pc + 0) = .ok 0xC3 ∧ busRead s (s.regs.pc + 1) = .ok 0x34 ∧
     busRead s (s.regs.pc + 2) = .ok 0x12) ∧
    (let s := { start r0 [] with ie := 0x3E, ime := true, regs := { r0 with pc := 0xFFFF } }
     s.CpuNext ∧ s.ie &&& s.iflag &&& 0x1F = 0 ∧ decode [0x3E, 0x00] = .ok (.ld_A_d8 0x00, []) ∧
     busRead s (s.regs.pc + 0) = .ok 0x3E ∧ busRead s (s.regs.pc + 1) = .ok 0x00) :=
  ⟨⟨⟨by decide, by decide, by decide⟩, by decide, rfl, reads (by decide), reads (by decide), reads (by decide)⟩,
   ⟨by decide, by decide, by decide⟩, by decide, rfl, reads (by decide), reads (by decide)⟩

/-- A machine about to dispatch source `k` with SP at `sp`. -/
def dispatchState (k : Nat) (sp : Word) : State :=
  { start { r0 with pc := 0x0300, sp := sp } [] with ime := true, ie := 0xFF, iflag := BitVec.ofNat 8 (2 ^ k) }

/-- The lowest and the highest source; both stack writes accepted; the first refused (0xBFFE, no ERAM); only the second
refused (SP = 0xA001: the bytes at 0x9FFF and 0xA000). -/
theorem test_witness_InterruptDispatch :
    ((dispatchState 0 0xD000).CpuNext ∧ (dispatchState 0 0xD000).ime = true ∧ Serviced (dispatchState 0 0xD000) 0) ∧
    ((dispatchState 4 0xA001).CpuNext ∧ (dispatchState 4 0xA001).ime = true ∧ Serviced (dispatchState 4 0xA001) 4) ∧
    (∃ t1 t2, busWrite (dispatching (dispatchState 0 0xD000) 0) 0xCFFE 0x00 = .ok t1 ∧
      busWrite t1 0xCFFF 0x03 = .ok t2) ∧
    busWrite (dispatching (dispatchState 0 0xC000) 0) 0xBFFE 0x00 = .error ⟨.outOfBounds, 0xBFFE⟩ ∧
    (∃ t1, busWrite (dispatching (dispatchState 4 0xA001) 4) 0x9FFF 0x00 = .ok t1 ∧
      busWrite t1 0xA000 0x03 = .error ⟨.outOfBounds, 0xA000⟩) := by
  unfold Serviced
  exact ⟨⟨⟨by decide, by decide, by decide⟩, by decide, by decide⟩, ⟨⟨by decide, by decide, by decide⟩, by decide, by decide⟩,
    stores_two (by decide), fails (by decide), stores_fails (by decide)⟩

theorem test_witness_FaultedMachineStops :
    ∃ s1 s2 s3 s4 : State, s1.status = .faulted ⟨.outOfBounds, 0xA000⟩ ∧
      s2.status = .faulted ⟨.invalidCpuInstruction, 0x00FD⟩ ∧ s3.status = .faulted ⟨.bootRomWrite, 0x0000⟩ ∧
      s4.status = .faulted ⟨.badValue, 0xFFFF⟩ :=
  ⟨State.reset.setStatus (.faulted ⟨.outOfBounds, 0xA000⟩),
   State.reset.setStatus (.faulted ⟨.invalidCpuInstruction, 0x00FD⟩),
   State.reset.setStatus (.faulted ⟨.bootRomWrite, 0x0000⟩), State.reset.setStatus (.faulted ⟨.badValue, 0xFFFF⟩),
   rfl, rfl, rfl, rfl⟩

/-- The opcode, the second and the third byte lie at 0xA000, where this cartridge has no ERAM. -/
theorem test_witness_FetchFaultIsPrecise :
    (let s := State.reset.setRegs { r0 with pc := 0xA000 }
     s.CpuNext ∧ s.interruptTaken = false ∧ busRead s s.regs.pc = .error ⟨.outOfBounds, 0xA000⟩) ∧
    (let s := put 0x9FFF 0x06 (State.reset.setRegs { r0 with pc := 0x9FFF })
     s.CpuNext ∧ s.interruptTaken = false ∧ busRead s s.regs.pc = .ok 0x06 ∧ 2 ≤ lengthOf 0x06 ∧
     busRead s (s.regs.pc + 1) = .error ⟨.outOfBounds, 0xA000⟩) ∧
    (let s := put 0x9FFE 0xC3 (State.reset.setRegs { r0 with pc := 0x9FFE })
     s.CpuNext ∧ s.interruptTaken = false ∧ busRead s s.regs.pc = .ok 0xC3 ∧ lengthOf 0xC3 = 3 ∧
     busRead s (s.regs.pc + 1) = .ok 0x00 ∧ busRead s (s.regs.pc + 2) = .error ⟨.outOfBounds, 0xA000⟩) :=
  ⟨⟨⟨by decide, by decide, by decide⟩, by decide, fails (by decide)⟩,
   ⟨⟨by decide, by decide, by decide⟩, by decide, reads (by decide), by decide, fails (by decide)⟩,
   ⟨by decide, by decide, by decide⟩, by decide, reads (by decide), by decide, reads (by decide), fails (by decide)⟩

/-- HL, BC, DE and an absolute address in the absent ERAM; SP there, and one below it. -/
theorem test_witness_OperandReadFaultIsPrecise :
    (let s := State.reset.setRegs { r0 with b := 0xBF, c := 0xFF, d := 0xB0, e := 0x00, h := 0xA0, l := 0x00, sp := 0xBFFF }
     let e : Trap := ⟨.outOfBounds, 0xA000⟩
     busRead s (s.regs.h ++ s.regs.l) = .error e ∧
     busRead s (s.regs.b ++ s.regs.c) = .error ⟨.outOfBounds, 0xBFFF⟩ ∧
     busRead s (s.regs.d ++ s.regs.e) = .error ⟨.outOfBounds, 0xB000⟩ ∧ busRead s 0xA000 = .error e ∧
     busRead s s.regs.sp = .error ⟨.outOfBounds, 0xBFFF⟩ ∧ s.regs.holds .nz = true) ∧
    (let s := State.reset.setRegs { r0 with sp := 0x9FFF }
     busRead s s.regs.sp = .ok 0x00 ∧ busRead s (s.regs.sp + 1) = .error ⟨.outOfBounds, 0xA000⟩) := by
  exact ⟨⟨fails (by decide), fails (by decide), fails (by decide), fails (by decide), fails (by decide), by decide⟩,
    reads (by decide), fails (by decide)⟩

/-- HL at the last byte of the boot ROM (read, but never written), BC and DE there too; SP at 0xA002, in the absent ERAM. -/
theorem test_witness_FirstStoreFaultIsPrecise :
    (let s := State.reset.setRegs { r0 with c := 0xFF, e := 0xFF, h := 0x00, l := 0xFF, sp := 0xA002 }
     let e : Trap := ⟨.bootRomWrite, 0x00FF⟩
     let low := { s with regs := { s.regs with sp := s.regs.sp - 2 } }
     busRead s (s.regs.h ++ s.regs.l) = .ok 0x00 ∧ (∀ v, busWrite s (s.regs.h ++ s.regs.l) v = .error e) ∧
     busWrite s (s.regs.b ++ s.regs.c) s.regs.a = .error e ∧ busWrite s (s.regs.d ++ s.regs.e) s.regs.a = .error e ∧
     busWrite low (s.regs.sp - 2) (s.regs.pc.setWidth 8) = .error ⟨.outOfBounds, 0xA000⟩ ∧
     (∀ q, busWrite low (s.regs.sp - 2) ((s.regs.stackPair q).setWidth 8) = .error ⟨.outOfBounds, 0xA000⟩) ∧
     busWrite s 0x0000 (s.regs.sp.setWidth 8) = .error ⟨.bootRomWrite, 0x0000⟩ ∧ s.regs.holds .nz = true) := by
  refine ⟨reads (by decide), fun _ => rfl, fails (by decide), fails (by decide), fails (by decide), ?_, fails (by decide),
    by decide⟩
  intro q
  cases q <;> exact fails (by decide)

/-- The second byte of a word: at SP = 0xA001 and at the address 0x9FFF the first byte is the last of VRAM, and the second
is in the absent ERAM. -/
theorem test_witness_SecondStoreFault :
    (let s := State.reset.setRegs { r0 with sp := 0xA001 }
     let low := { s with regs := { s.regs with sp := s.regs.sp - 2 } }
     (∀ q, ∃ t1, busWrite low (s.regs.sp - 2) ((s.regs.stackPair q).setWidth 8) = .ok t1 ∧
       busWrite t1 (s.regs.sp - 1) ((s.regs.stackPair q >>> 8).setWidth 8) = .error ⟨.outOfBounds, 0xA000⟩) ∧
     (∃ t1, busWrite low (s.regs.sp - 2) (s.regs.pc.setWidth 8) = .ok t1 ∧
       busWrite t1 (s.regs.sp - 1) ((s.regs.pc >>> 8).setWidth 8) = .error ⟨.outOfBounds, 0xA000⟩) ∧
     ∃ t1, busWrite s 0x9FFF (s.regs.sp.setWidth 8) = .ok t1 ∧
       busWrite t1 (0x9FFF + 1) ((s.regs.sp >>> 8).setWidth 8) = .error ⟨.outOfBounds, 0xA000⟩) := by
  refine ⟨?_, stores_fails (by decide), stores_fails (by decide)⟩
  intro q
  cases q <;> exact stores_fails (by decide)

theorem test_witness_ResetValues :
    ∃ a b c : Header, a.variant = .noMbc ∧ b.variant = .mbc1 ∧ c.variant = .mbc3 :=
  ⟨Header.blank, { Header.blank with variant := .mbc1 }, { Header.blank with variant := .mbc3 }, rfl, rfl, rfl⟩

/-- A file: 0x147 zero bytes, the type, ROM size and RAM size bytes, then `n` zero bytes. -/
def fileOf (type rom ram : Byte) (n : Nat) : List Byte := List.replicate 0x147 0 ++ ([type, rom, ram] ++ List.replicate n 0)

theorem fileOf_length (t r m : Byte) (n : Nat) : (fileOf t r m n).length = 0x14A + n := by
  rw [fileOf, List.length_append, List.length_append, List.length_replicate, List.length_replicate]; simp; omega

theorem fileOf_at (t r m : Byte) (n : Nat) :
    (fileOf t r m n).getD 0x147 0 = t ∧ (fileOf t r m n).getD 0x148 0 = r ∧ (fileOf t r m n).getD 0x149 0 = m := by
  have at_ : ∀ j k, j = 0x147 + k → (fileOf t r m n).getD j 0 = ([t, r, m] ++ List.replicate n 0).getD k 0 := by
    intro j k h
    rw [fileOf, List.getD_append_right _ _ _ _ (by rw [List.length_replicate]; omega), List.length_replicate,
      h, Nat.add_sub_cancel_left]
  exact ⟨at_ _ 0 rfl, at_ _ 1 rfl, at_ _ 2 rfl⟩

/-- Of every clause of `LoaderChecksHeader` and its boundaries: ROM size codes 8 and 9, RAM size codes 5 and 6, a length one
short, an unsupported type, a type of no list, and an accepted 32 KiB file. -/
theorem test_witness_LoaderChecksHeader :
    (let file := fileOf 0x00 0x09 0x00 6; 0x150 ≤ file.length ∧ 8 < (file.getD 0x148 0).toNat) ∧
    (let file := fileOf 0x00 0x08 0x00 6
     0x150 ≤ file.length ∧ (file.getD 0x148 0).toNat ≤ 8 ∧ file.length ≠ 0x8000 * 2 ^ (file.getD 0x148 0).toNat) ∧
    (∀ (t m : Byte), let file := fileOf t 0x00 m 0x7EB6
      0x150 ≤ file.length ∧ (file.getD 0x148 0).toNat ≤ 8 ∧ file.length = 0x8000 * 2 ^ (file.getD 0x148 0).toNat ∧
      file.getD 0x147 0 = t ∧ file.getD 0x149 0 = m) := by
  refine ⟨?_, ?_, ?_⟩
  · simp only [fileOf_length, (fileOf_at _ _ _ _).2.1]; decide
  · simp only [fileOf_length, (fileOf_at _ _ _ _).2.1]; decide
  · intro t m
    simp only [fileOf_length, fileOf_at, and_true]
    decide

/-- The accepted file of `fileOf` loads, so some machine is a loaded one. -/
theorem test_witness_LoadedMachineSatisfiesInvariant :
    ∃ s, ([] : List Byte).length ≤ 256 ∧ State.load (fileOf 0x13 0x00 0x05 0x7EB6) [] = .ok s := by
  have h : ∃ x, parseHeader (fileOf 0x13 0x00 0x05 0x7EB6) = .ok x := by
    have size : checkRomSize (fileOf 0x13 0x00 0x05 0x7EB6) 2 = .ok () := by
      rw [checkRomSize, fileOf_length, if_pos (by decide)]
    obtain ⟨h7, h8, h9⟩ := fileOf_at 0x13 0x00 0x05 0x7EB6
    rw [← fileByte] at h7 h8 h9
    simp only [parseHeader, h7, h8, h9, show romBankCount 0x00 = .ok 2 from rfl,
      show cartridgeType 0x13 = .ok (.mbc3, true) from rfl, show ramBankCount 0x05 = .ok 8 from rfl, bind, Except.bind, pure, Except.pure, size]
    exact ⟨_, rfl⟩
  obtain ⟨x, hx⟩ := h
  exact ⟨_, by decide, by rw [State.load, hx]; rfl⟩

/-- A state of the invariant whose step (a NOP of the boot ROM's zero bytes) answers. -/
theorem test_witness_StepKeepsInvariant :
    ∃ s t : State, s.Inv ∧ step s = .next t :=
  ⟨_, _, inv_at 143 79 (by decide) (by decide), rfl⟩

/-- A step with boot mode already off. -/
theorem test_witness_ImmutableStateAndStickyBootLatch :
    ∃ t, step (start r0 [0x3E, 0x01]) = .next t ∧ (start r0 [0x3E, 0x01]).bootMode = false := by
  obtain ⟨t, h, -⟩ := answers (o := step (start r0 [0x3E, 0x01])) (p := fun _ => true) (by decide)
  exact ⟨t, h, by decide⟩

theorem test_witness_DeviceActionsLeaveCpuAlone :
    ∀ a ∈ ([.timer 0, .timer 1, .ppu, .input (.press .right), .input (.release .select)] : List Action),
      a ≠ .cpu ∧ ∃ t, perform a State.reset = .next t := by
  intro a h
  fin_cases h <;> exact ⟨by decide, _, rfl⟩

/-- An instruction that writes none of IME, SP, PC and F. -/
theorem test_witness_ControlRegistersChangeOnlyWhereNamed :
    ∃ t, exec .ld_B_C State.reset = .next t ∧ writesOf .ld_B_C = { ime := false, sp := false, pc := false, f := false } :=
  ⟨_, rfl, rfl⟩

/-- A form that stores the last two bytes of WRAM, with the address after them, and one that stores nothing. -/
theorem test_witness_MemoryFrame :
    (∃ t, exec (.ld_atA16_SP 0xDFFE) State.reset = .next t) ∧
    (∀ a ∈ storeAddresses (.ld_atA16_SP 0xDFFE) State.reset, RamAddress a) ∧
    (0xE000 : Word) ∉ storeAddresses (.ld_atA16_SP 0xDFFE) State.reset ∧
    (∃ t, exec .cp_B State.reset = .next t) ∧ storeAddresses .cp_B State.reset = [] := by
  refine ⟨?_, ?_, by decide, ?_, rfl⟩
  · exact (answers (p := fun _ => true) (by decide)).imp fun _ h => h.1
  · unfold RamAddress
    intro a h
    fin_cases h <;> decide
  · exact (answers (p := fun _ => true) (by decide)).imp fun _ h => h.1

/-- The first and last address of VRAM, WRAM and HRAM are RAM; their neighbours are not. -/
theorem test_witness_RamStoreReadsBack :
    (∀ a ∈ ([0x8000, 0x9FFF, 0xC000, 0xDFFF, 0xFF80, 0xFFFE] : List Word), RamAddress a) ∧
    (∀ a ∈ ([0x7FFF, 0xA000, 0xBFFF, 0xE000, 0xFF7F, 0xFFFF] : List Word), ¬ RamAddress a) := by
  unfold RamAddress
  exact ⟨fun a h => by fin_cases h <;> decide, fun a h => by fin_cases h <;> decide⟩

theorem test_witness_WordStoreIsLittleEndian :
    ∀ a ∈ ([0x8000, 0x9FFE, 0xC000, 0xDFFE, 0xFF80, 0xFFFD] : List Word), RamAddress a ∧ RamAddress (a + 1) := by
  unfold RamAddress
  intro a h
  fin_cases h <;> decide

/-- The ends of each range of `UnlistedAddresses`. -/
theorem test_witness_UnlistedAddresses :
    ∀ a ∈ ([0xE000, 0xFEFF, 0xFF01, 0xFF03, 0xFF08, 0xFF0E, 0xFF10, 0xFF3F, 0xFF4C, 0xFF4F, 0xFF51, 0xFF7F] : List Word),
      (0xE000 ≤ a.toNat ∧ a.toNat ≤ 0xFEFF) ∨ (0xFF01 ≤ a.toNat ∧ a.toNat ≤ 0xFF03) ∨
      (0xFF08 ≤ a.toNat ∧ a.toNat ≤ 0xFF0E) ∨ (0xFF10 ≤ a.toNat ∧ a.toNat ≤ 0xFF3F) ∨
      (0xFF4C ≤ a.toNat ∧ a.toNat ≤ 0xFF4F) ∨ (0xFF51 ≤ a.toNat ∧ a.toNat ≤ 0xFF7F) := by
  intro a h
  fin_cases h <;> decide

theorem test_witness_BootRomOverlay :
    State.reset.bootMode = true ∧ (start r0 []).bootMode = false ∧
    (∀ a ∈ ([0x0000, 0x00FF] : List Word), a.toNat < 0x100) ∧
    ∀ a ∈ ([0x0100, 0x7FFF, 0xA000, 0xBFFF] : List Word),
      (0x0100 ≤ a.toNat ∧ a.toNat < 0x8000) ∨ (0xA000 ≤ a.toNat ∧ a.toNat < 0xC000) := by
  refine ⟨rfl, by decide, fun a h => by fin_cases h <;> decide, fun a h => by fin_cases h <;> decide⟩

/-- Offsets inside and outside the arrays: a NoMbc cartridge with one bank of ERAM (0xBFFF is inside) and one without. -/
theorem test_witness_NoMbcReadsAndWrites :
    (let c := cartridge .noMbc 2 1 []
     c.mapper = .noMbc ∧ (0x7FFF : Word).toNat < c.romLen ∧ (0xBFFF : Word).toNat - 0xA000 < c.eramLen) ∧
    (let c := cartridge .noMbc 2 0 []
     c.mapper = .noMbc ∧ c.eramLen ≤ (0xA000 : Word).toNat - 0xA000) := ⟨⟨rfl, by decide, by decide⟩, rfl, by decide⟩

/-- Both values of RAM enable and of the mode, an offset inside the ROM and one past it, and the ends of each window. -/
theorem test_witness_Mbc1ReadsAndWrites :
    (∃ (c : Cartridge) (r : Mbc1), c.mapper = .mbc1 r ∧ r.ramEnable = true ∧ r.advanced = true ∧
      (0x7FFF - 0x4000) + 0x4000 * (32 * r.secondaryBank.toNat + r.romBank.toNat) < c.romLen) ∧
    (∃ (c : Cartridge) (r : Mbc1), c.mapper = .mbc1 r ∧ r.ramEnable = false ∧ r.advanced = false ∧
      c.romLen ≤ (0x4000 - 0x4000) + 0x4000 * (32 * r.secondaryBank.toNat + r.romBank.toNat)) ∧
    (∀ a ∈ ([0x0000, 0x1FFF] : List Word), a.toNat < 0x2000) ∧
    (∀ a ∈ ([0x2000, 0x3FFF] : List Word), 0x2000 ≤ a.toNat ∧ a.toNat < 0x4000) ∧
    (∀ a ∈ ([0x4000, 0x5FFF] : List Word), 0x4000 ≤ a.toNat ∧ a.toNat < 0x6000) ∧
    (∀ a ∈ ([0x6000, 0x7FFF] : List Word), 0x6000 ≤ a.toNat ∧ a.toNat < 0x8000) ∧
    (∀ a ∈ ([0xA000, 0xBFFF] : List Word), 0xA000 ≤ a.toNat ∧ a.toNat < 0xC000) :=
  ⟨⟨{ cartridge .mbc1 128 4 [] with mapper := .mbc1 ⟨31, 3, true, true⟩ }, ⟨31, 3, true, true⟩, rfl, rfl, rfl, by decide⟩,
   ⟨{ cartridge .mbc1 2 0 [] with mapper := .mbc1 ⟨2, 0, false, false⟩ }, ⟨2, 0, false, false⟩, rfl, rfl, rfl, by decide⟩,
   fun a h => by fin_cases h <;> decide, fun a h => by fin_cases h <;> decide, fun a h => by fin_cases h <;> decide,
   fun a h => by fin_cases h <;> decide, fun a h => by fin_cases h <;> decide⟩

/-- RAM disabled; and, enabled, the last RAM bank, each end of the RTC selectors, and the selectors around them. -/
theorem test_witness_Mbc3ReadsAndWrites :
    (∃ (c : Cartridge) (r : Mbc3), c.mapper = .mbc3 r ∧ r.ramEnable = false) ∧
    (∀ select ∈ ([0x03, 0x04, 0x07, 0x08, 0x0C, 0x0D, 0xFF] : List Byte),
      ∃ (c : Cartridge) (r : Mbc3), c.mapper = .mbc3 r ∧ r.ramEnable = true ∧ r.select = select ∧
        (r.select.toNat ≤ 0x03 ↔ select = 0x03) ∧
        (rtcByte r.latched r.select.toNat = none ↔ select ∈ ([0x03, 0x04, 0x07, 0x0D, 0xFF] : List Byte))) := by
  refine ⟨⟨cartridge .mbc3 4 4 [], _, rfl, rfl⟩, ?_⟩
  intro x h
  refine ⟨{ cartridge .mbc3 4 4 [] with mapper := .mbc3 ⟨1, x, true, ⟨0, 0, 0, 0, 0⟩, ⟨0, 0, 0, 0, 0⟩⟩ },
    ⟨1, x, true, ⟨0, 0, 0, 0, 0⟩, ⟨0, 0, 0, 0, 0⟩⟩, rfl, rfl, rfl, ?_⟩
  fin_cases h <;> decide

theorem test_witness_JoypadEvents :
    ((.right, true, 0) : Button × Bool × Nat) ∈ ([(.right, true, 0), (.left, true, 1), (.up, true, 2), (.down, true, 3),
      (.a, false, 0), (.b, false, 1), (.start, false, 2), (.select, false, 3)] : List (Button × Bool × Nat)) ∧
    ((.select, false, 3) : Button × Bool × Nat) ∈ ([(.right, true, 0), (.left, true, 1), (.up, true, 2), (.down, true, 3),
      (.a, false, 0), (.b, false, 1), (.start, false, 2), (.select, false, 3)] : List (Button × Bool × Nat)) := by decide

/-- Stores to the first and last I/O register and to IE, to the ends of the mapper's windows and of an ERAM of one bank. -/
theorem test_witness_RegisterStoreFrame :
    (∃ t, busWrite State.reset 0xFF00 0x01 = .ok t) ∧ (∃ t, busWrite State.reset 0xFF7F 0x01 = .ok t) ∧
    (∃ t, busWrite State.reset 0xFFFF 0x01 = .ok t) ∧ (∃ t, busWrite State.reset 0x0100 0x01 = .ok t) ∧
    (∃ t, busWrite State.reset 0x7FFF 0x01 = .ok t) ∧
    (∃ t, busWrite (withCart (cartridge .noMbc 2 1 [])) 0xA000 0x01 = .ok t) ∧
    (∃ t, busWrite (withCart (cartridge .noMbc 2 1 [])) 0xBFFF 0x01 = .ok t) ∧
    ∀ a ∈ ([0xFF00, 0xFF7F, 0xFFFF] : List Word), 0xFF00 ≤ a.toNat ∧ ¬ RamAddress a := by
  unfold RamAddress
  exact ⟨stores (by decide), stores (by decide), stores (by decide), stores (by decide), stores (by decide),
    stores (by decide), stores (by decide), fun a h => by fin_cases h <;> decide⟩

/-- `TimerCycle`: a cycle in which nothing ticks; one that ticks TIMA; one that overflows it with DIV counting too. -/
theorem test_witness_TimerCycle :
    (let t : Timer := ⟨0, 0, 0, 0, true, 1⟩; (t.master + 1).toNat % 256 ≠ 0 ∧ (t.master + 1).toNat % 16 ≠ 0) ∧
    (let t : Timer := ⟨15, 0, 0xFE, 0, true, 1⟩; t.enable = true ∧ (t.master + 1).toNat % 16 = 0 ∧ t.tima ≠ 0xFF) ∧
    (let t : Timer := ⟨255, 0, 0xFF, 0, true, 3⟩
     t.enable = true ∧ (t.master + 1).toNat % 256 = 0 ∧ t.tima = 0xFF) := by decide

/-- The first and last emitting dots of the first and last visible line, and the positions around them. -/
theorem test_witness_PpuStepEmitsBackgroundPixel :
    (∀ p ∈ ([(0, 80), (143, 239)] : List (Nat × Nat)), ∃ s : State, s.Inv ∧ s.ppu.line = p.1 ∧ s.ppu.dot = p.2 ∧
      (p.1 < 144 ∧ 80 ≤ p.2 ∧ p.2 < 240)) ∧
    (∀ p ∈ ([(0, 79), (0, 240), (144, 80), (153, 455)] : List (Nat × Nat)), ∃ s : State, s.Inv ∧ s.ppu.line = p.1 ∧
      s.ppu.dot = p.2 ∧ ¬ (p.1 < 144 ∧ 80 ≤ p.2 ∧ p.2 < 240)) := by
  refine ⟨?_, ?_⟩ <;> intro p h
  · have hp : p.1 < 144 ∧ 80 ≤ p.2 ∧ p.2 < 240 := by fin_cases h <;> decide
    exact ⟨_, inv_at p.1 p.2 (by omega) (by omega), rfl, rfl, hp⟩
  · have hp : p.1 < 154 ∧ p.2 < 456 ∧ ¬ (p.1 < 144 ∧ 80 ≤ p.2 ∧ p.2 < 240) := by fin_cases h <;> decide
    exact ⟨_, inv_at p.1 p.2 hp.1 hp.2.1, rfl, rfl, hp.2.2⟩

/-- `FrameIs70224Steps` and `VisibleLineWritesItsCells`: the reset position, and the last visible line. -/
theorem test_witness_FrameIs70224Steps : ∃ s : State, s.Inv ∧ 0 < 70224 :=
  ⟨_, inv_at 153 455 (by decide) (by decide), by decide⟩

theorem test_witness_VisibleLineWritesItsCells :
    ∀ line, line = 0 ∨ line = 143 → ∃ s : State, s.Inv ∧ s.ppu.line = line ∧ s.ppu.line < 144 ∧ s.ppu.dot = 0 := by
  rintro line (rfl | rfl)
  · exact ⟨_, inv_at 0 0 (by decide) (by decide), rfl, by decide, rfl⟩
  · exact ⟨_, inv_at 143 0 (by decide) (by decide), rfl, by decide, rfl⟩

/-- A pending action of each kind; a reference round with input events, one without and one past the last, on a CPU step
that runs and on one that faults; `JR NZ` taken and not; a step that dispatches an interrupt. -/
theorem test_witness_DriverRunsPendingActions :
    (∀ a ∈ ([.timer 4, .ppu, .input (.press .up), .input (.release .up), .cpu] : List Action),
      ∃ s : State, s.status = .running ∧ s.queue = a :: [.cpu]) ∧
    (let s := { start r0 [0x20, 0xFE] with driver := .reference [[.press .a, .release .b], []] }
     s.status = .running ∧ s.queue = [] ∧ s.interruptTaken = false ∧
     AfterInputs s.joypad [.press .a, .release .b] ⟨0b1110, 0xF, 3⟩ ∧
     (∃ t, cpuStep { s with joypad := ⟨0b1110, 0xF, 3⟩, driver := .reference [[]] } = .next t ∧ t.status = .running) ∧
     busRead s s.regs.pc = .ok 0x20 ∧ busRead s (s.regs.pc + 1) = .ok 0xFE ∧ s.regs.flagZ = false) ∧
    (let s := { start r0 [0xD3] with driver := .reference [] }
     s.status = .running ∧ s.queue = [] ∧ AfterInputs s.joypad [] s.joypad ∧
     ∃ t, cpuStep s = .next t ∧ t.status ≠ .running) ∧
    (dispatchState 0 0xD000).interruptTaken = true := by
  refine ⟨fun a _ => ⟨State.reset.setQueue [a, .cpu], rfl, rfl⟩, ⟨by decide, by decide, by decide, ?_, ?_, reads (by decide),
    reads (by decide), by decide⟩, ⟨by decide, by decide, .none _, ?_⟩, by decide⟩
  · exact .press (.release (.none _))
  · exact (answers (p := fun t => decide (t.status = .running)) (by decide)).imp fun _ h => ⟨h.1, of_decide_eq_true h.2⟩
  · exact (answers (p := fun t => decide (t.status ≠ .running)) (by decide)).imp fun _ h => ⟨h.1, of_decide_eq_true h.2⟩

/-- Every address of `LoadFromMemory` readable at once; the high page at its two ends. -/
theorem test_witness_LoadFromMemory :
    (let s := start { r0 with b := 0xC0, d := 0x80, h := 0xFF, l := 0xFF, c := 0xFF } []
     busRead s (s.regs.h ++ s.regs.l) = .ok 0x00 ∧ busRead s (s.regs.b ++ s.regs.c) = .ok 0x00 ∧
     busRead s (s.regs.d ++ s.regs.e) = .ok 0x00 ∧ busRead s 0xE000 = .ok 0x00 ∧
     busRead s (0xFF00 + (0x00 : Byte).setWidth 16) = .ok 0xFF ∧
     busRead s (0xFF00 + s.regs.c.setWidth 16) = .ok 0x00) := by
  exact ⟨reads (by decide), reads (by decide), reads (by decide), reads (by decide), reads (by decide), reads (by decide)⟩

/-- Every address of `StoreByte` writable. -/
theorem test_witness_StoreByte :
    (let s := start { r0 with b := 0xC0, d := 0x80, h := 0xFF, l := 0xFF, c := 0x80 } []
     (∀ src, ∃ t, busWrite s (s.regs.h ++ s.regs.l) (s.regs.get8 src) = .ok t) ∧
     (∃ t, busWrite s (s.regs.h ++ s.regs.l) 0x55 = .ok t) ∧ (∃ t, busWrite s (s.regs.b ++ s.regs.c) s.regs.a = .ok t) ∧
     (∃ t, busWrite s (s.regs.d ++ s.regs.e) s.regs.a = .ok t) ∧ (∃ t, busWrite s 0xE000 s.regs.a = .ok t) ∧
     (∃ t, busWrite s (0xFF00 + (0x00 : Byte).setWidth 16) s.regs.a = .ok t) ∧
     (∃ t, busWrite s (0xFF00 + s.regs.c.setWidth 16) s.regs.a = .ok t)) := by
  refine ⟨fun src => ?_, stores (by decide), stores (by decide), stores (by decide), stores (by decide),
    stores (by decide), stores (by decide)⟩
  cases src <;> exact stores (by decide)

/-- A word stored across 0xFFFF: the second byte goes to 0x0000 (a mapper register, boot mode off). -/
theorem test_witness_LoadAndStoreWords :
    ∃ t1 t2, busWrite (start r0 []) 0xFFFF ((start r0 []).regs.sp.setWidth 8) = .ok t1 ∧
      busWrite t1 (0xFFFF + 1) (((start r0 []).regs.sp >>> 8).setWidth 8) = .ok t2 := stores_two (by decide)

/-- A stack in WRAM; and one at SP = 0x0001, whose pushed bytes are IE and the mapper's (vector W11). -/
theorem test_witness_PushAndPop :
    (∀ sp ∈ ([0xD000, 0x0001] : List Word), ∃ t1 t2,
      busWrite { start r0 [] with regs := { r0 with sp := sp - 2 } } (sp - 2) 0x00 = .ok t1 ∧
      busWrite t1 (sp - 1) 0x00 = .ok t2) ∧
    busRead (start r0 []) 0xFFFE = .ok 0x00 ∧ busRead (start r0 []) 0xFFFF = .ok 0x00 := by
  refine ⟨?_, reads (by decide), reads (by decide)⟩
  intro sp h
  fin_cases h <;> exact stores_two (by decide)

theorem test_witness_PushThenPopRestores :
    (∃ s : State, s.Inv) ∧ ∀ sp ∈ ([0x8002, 0xA000, 0xC002, 0xE000, 0xFF82, 0xFFFF] : List Word),
      RamAddress (sp - 2) ∧ RamAddress (sp - 1) := by
  refine ⟨⟨_, inv_at 0 0 (by decide) (by decide)⟩, ?_⟩
  unfold RamAddress
  intro sp h
  fin_cases h <;> decide

/-- `OperandReads`, the hypothesis of the arithmetic, rotate and bit statements: of a register and of `(HL)`. -/
theorem test_witness_OperandReads :
    (∀ r, OperandReads State.reset (.reg r) 0x00) ∧
    OperandReads (put 0xC000 0x80 (start { r0 with h := 0xC0 } [])) .atHL 0x80 := by
  refine ⟨fun r => by cases r <;> rfl, ?_⟩
  exact reads (by decide)

/-- `WritesOperand` on `(HL)`, the hypothesis of its memory case: the bus accepts the byte. -/
theorem test_witness_WritesOperand :
    ∃ t, busWrite (start { r0 with h := 0xC0 } []) 0xC000 0x81 = .ok t := stores (by decide)

/-- `BitResAndSet`: the result byte of `RES 7` and of `SET 0` on 0x80. -/
theorem test_witness_BitResAndSet :
    (∀ j, j < 8 → (0x00 : Byte).getLsbD j = if j = 7 then false else (0x80 : Byte).getLsbD j) ∧
    (∀ j, j < 8 → (0x81 : Byte).getLsbD j = if j = 0 then true else (0x80 : Byte).getLsbD j) := by decide

/-- Both values of Z and C; the two pushes accepted at SP = 0xFFFE. -/
theorem test_witness_CallsAndRestarts :
    (∃ s : State, s.regs.f.getLsbD 7 = true ∧ s.regs.f.getLsbD 4 = true) ∧
    (∃ s t1 t2 : State, s.regs.f.getLsbD 7 = false ∧ s.regs.f.getLsbD 4 = false ∧
      busWrite { s with regs := { s.regs with sp := s.regs.sp - 2 } } (s.regs.sp - 2) (s.regs.pc.setWidth 8) = .ok t1 ∧
      busWrite t1 (s.regs.sp - 1) ((s.regs.pc >>> 8).setWidth 8) = .ok t2) := by
  refine ⟨⟨State.reset.setRegs { r0 with f := 0x90 }, by decide, by decide⟩,
    ⟨State.reset.setRegs { r0 with sp := 0xFFFE }, ?_⟩⟩
  obtain ⟨t1, t2, h⟩ := stores_two (x := busWrite (State.reset.setRegs { r0 with sp := 0xFFFC }) 0xFFFC 0x00)
    (f := fun t => busWrite t 0xFFFD 0x00) (by decide)
  exact ⟨t1, t2, by decide, by decide, h⟩

theorem test_witness_Returns :
    (let s := State.reset.setRegs { r0 with sp := 0xC000, f := 0x90 }
     s.regs.f.getLsbD 7 = true ∧ s.regs.f.getLsbD 4 = true ∧ busRead s s.regs.sp = .ok 0x00 ∧
     busRead s (s.regs.sp + 1) = .ok 0x00) ∧
    (let s := State.reset.setRegs { r0 with sp := 0xFFFF }
     s.regs.f.getLsbD 7 = false ∧ s.regs.f.getLsbD 4 = false ∧ busRead s s.regs.sp = .ok 0x00 ∧
     busRead s (s.regs.sp + 1) = .ok 0x00) := by
  exact ⟨⟨by decide, by decide, reads (by decide), reads (by decide)⟩, by decide, by decide, reads (by decide),
    reads (by decide)⟩

theorem test_witness_DecimalAdjustIsCorrect :
    ∃ s : State, ∃ x y : Nat, x < 100 ∧ y < 100 ∧ s.regs.a = bcd x ∧ bcd x = 0x99 ∧ bcd y = 0x01 :=
  ⟨State.reset.setRegs { r0 with a := 0x99 }, 99, 1, by decide, by decide, by decide, by decide, by decide⟩

end Sys2Proof.Tests
end

section
/-! PROOFS. Invariants and whole-machine rules: what a property must keep so that every step keeps it
(`step_preserves`), and from it the machine invariant and the immutable state. -/

namespace Sys2Proof.Machine

/-! ## The history ring -/

/-- The history ring never outgrows `HIST_CAP` (R106), whatever it held before. -/
theorem State.historyAppend_length_le (s : State) : s.historyAppend.history.length ≤ Config.histCap := by
  show (List.drop _ _).length ≤ Config.histCap
  rw [List.length_drop]
  omega

theorem State.historyAppend_inv {s : State} (h : s.Inv) : s.historyAppend.Inv :=
  { h with history := s.historyAppend_length_le }

/-! ## The PPU's position and framebuffer after one dot (R830) -/

section
variable {p : Ppu}

theorem Ppu.nextDot_lt (h : p.dot < Config.lineDots) : p.nextDot < Config.lineDots := by
  unfold Ppu.nextDot
  split
  case isTrue => decide
  case isFalse he =>
    have : p.dot + 1 ≠ Config.lineDots := by simpa [Ppu.endsLine] using he
    omega

theorem Ppu.nextLine_lt (h : p.line < Config.frameLines) : p.nextLine < Config.frameLines := by
  unfold Ppu.nextLine
  split
  · split
    · decide
    · omega
  · exact h

theorem framebufferAfter_wf (vram : Memory) (h : p.fb.wf) : (framebufferAfter vram p).wf := by
  unfold framebufferAfter
  split
  · exact Framebuffer.write_wf h _ _
  · exact h

/-- A pixel is emitted only inside the screen (R830), so every cell stays inside it (R124). -/
theorem framebufferAfter_cells {vram : Memory} (h : ∀ c ∈ p.fb, c.1 < Config.screenWidth * Config.visibleLines) :
    ∀ c ∈ framebufferAfter vram p, c.1 < Config.screenWidth * Config.visibleLines := by
  intro c hc
  unfold framebufferAfter at hc
  split at hc
  case isTrue he =>
    obtain ⟨hline, hlo, hhi⟩ := of_decide_eq_true he
    rcases Framebuffer.mem_write hc with hc | hc
    · rw [hc]
      simp only [cellIndex, Config.screenWidth, Config.visibleLines, Config.oamDots] at *
      omega
    · exact h c hc
  case isFalse => exact h c hc

end

theorem ppuAfter_inv {s : State} (h : s.Inv) : State.Inv { s with ppu := ppuAfter s.vram s.ppu } :=
  { h with
    line := Ppu.nextLine_lt h.line
    dot := Ppu.nextDot_lt h.dot
    fb := framebufferAfter_wf _ h.fb
    fbCells := framebufferAfter_cells h.fbCells }

/-! ## What every step keeps -/

/-- `P` does not depend on the timer, the joypad, IF, the pending actions and the driver. -/
def IgnoresDevices (P : State → Prop) : Prop :=
  ∀ s (tm : Timer) (j : Joypad) (i : Byte) (q : List Action) (d : Driver),
    P s → P { s with timer := tm, joypad := j, iflag := i, queue := q, driver := d }

section
variable {P : State → Prop}
variable (evolves : ∀ {s t : State}, s.Evolves t → P s → P t) (history : ∀ {s : State}, P s → P s.historyAppend)
  (ppu : ∀ {s : State}, P s → P { s with ppu := ppuAfter s.vram s.ppu }) (devices : IgnoresDevices P)

include evolves history devices in
theorem cpuStep_preserves {s t : State} (hs : P s) (h : cpuStep s = .next t) : P t := by
  obtain ⟨_, he⟩ | ⟨_, he⟩ := cpuStep_evolves h
  · have ack : P s.acknowledge := devices (s.setIme false) _ _ _ _ _ (evolves (State.Evolves.refl.ime false) hs)
    exact evolves he ack
  · exact evolves he (history hs)

include evolves history ppu devices in
theorem perform_preserves {a : Action} {s t : State} (hs : P s) (h : perform a s = .next t) : P t := by
  cases a with
  | cpu => exact cpuStep_preserves evolves history devices hs h
  | timer n =>
    cases h
    rw [timerStep_eq]
    exact devices s _ _ _ _ _ hs
  | ppu =>
    cases h
    rw [ppuStep_eq]
    exact devices _ _ _ _ _ _ (ppu hs)
  | input e =>
    cases h
    exact devices s _ _ _ _ _ hs

include evolves history ppu devices in
/-- EVERY STEP KEEPS `P`, if the evolutions, the history ring, a dot of the PPU and the devices do. -/
theorem step_preserves {s t : State} (hs : P s) (h : step s = .next t) : P t := by
  have queued : ∀ {u : State} (q : List Action), P u → P (u.setQueue q) := fun q => devices _ _ _ _ q _
  obtain ⟨_, ⟨a, rest, _, h⟩ | ⟨_, _, h⟩ | ⟨inputs, u, _, _, hu, ht⟩⟩ := step_next h
  · exact perform_preserves evolves history ppu devices (queued rest hs) h
  · exact cpuStep_preserves evolves history devices hs h
  · have hu : P u := cpuStep_preserves evolves history devices (devices s _ _ _ _ _ hs) hu
    obtain ⟨_, rfl⟩ | ⟨_, rfl⟩ := ht
    · exact queued _ hu
    · exact hu

end

/-- Settles O15: evolutions, the history ring and a dot of the PPU keep the invariant, and it speaks of no other device. -/
theorem stepKeepsInvariant : Obligations.StepKeepsInvariant := by
  unfold Obligations.StepKeepsInvariant
  intro s t hs h
  exact step_preserves State.Evolves.inv State.historyAppend_inv ppuAfter_inv (fun _ _ _ _ _ _ hi => { hi with }) hs h

/-! ## The immutable state -/

/-- What no step changes (R113, R115 to R117), and that a cleared boot mode stays cleared (R211). -/
structure State.KeepsLoaded (s t : State) : Prop where
  cart : s.cart.SameBut t.cart
  bootRom : t.bootRom = s.bootRom
  bootMode : s.bootMode = false → t.bootMode = false

theorem State.KeepsLoaded.refl (s : State) : s.KeepsLoaded s := ⟨.refl _, rfl, id⟩

theorem State.KeepsLoaded.evolves {s t u : State} (he : t.Evolves u) (h : s.KeepsLoaded t) : s.KeepsLoaded u where
  cart := ⟨he.frame.cart.rom.trans h.cart.rom, he.frame.cart.header.trans h.cart.header,
    he.frame.cart.variant.trans h.cart.variant⟩
  bootRom := he.frame.bootRom.trans h.bootRom
  bootMode hb := he.frame.bootMode (h.bootMode hb)

/-- Settles O16: evolutions keep the loaded state, and nothing else in a step touches it. -/
theorem immutableStateAndStickyBootLatch : Obligations.ImmutableStateAndStickyBootLatch := by
  unfold Obligations.ImmutableStateAndStickyBootLatch
  intro s t h
  obtain ⟨⟨rom, header, variant⟩, bootRom, bootMode⟩ : s.KeepsLoaded t :=
    step_preserves State.KeepsLoaded.evolves (fun hk => { hk with }) (fun hk => { hk with })
      (fun _ _ _ _ _ _ hk => { hk with }) (.refl s) h
  exact ⟨rom, header, bootRom, variant, bootMode⟩

end Sys2Proof.Machine
end

section
/-! PROOFS. Which instructions write IME, SP, PC and F: `writesOf`, the table of the rules, bounds what `exec` writes. -/

namespace Sys2Proof.Machine

/-! ## The table by family -/

section
variable (v : Byte) (w : Word) (r x : Reg8) (p : Pair) (q : StackPair) (o : Operand8) (k : Fin 8) (cc : Cond)

@[simp] theorem writesOf_ldRegReg : writesOf (Instr.ldRegReg r x) = {} := by cases r <;> cases x <;> rfl
@[simp] theorem writesOf_ldRegImm : writesOf (Instr.ldRegImm v r) = {} := by cases r <;> rfl
@[simp] theorem writesOf_ldRegAtHL : writesOf (Instr.ldRegAtHL r) = {} := by cases r <;> rfl
@[simp] theorem writesOf_ldAtHLReg : writesOf (Instr.ldAtHLReg r) = {} := by cases r <;> rfl
@[simp] theorem writesOf_ldPairImm : writesOf (Instr.ldPairImm w p) = { sp := decide (p = .sp) } := by cases p <;> rfl
@[simp] theorem writesOf_incPair : writesOf (Instr.incPair p) = { sp := decide (p = .sp) } := by cases p <;> rfl
@[simp] theorem writesOf_decPair : writesOf (Instr.decPair p) = { sp := decide (p = .sp) } := by cases p <;> rfl
@[simp] theorem writesOf_addHLPair : writesOf (Instr.addHLPair p) = { f := true } := by cases p <;> rfl
@[simp] theorem writesOf_push : writesOf (Instr.push q) = { sp := true } := by cases q <;> rfl
@[simp] theorem writesOf_pop : writesOf (Instr.pop q) = { sp := true, f := decide (q = .af) } := by cases q <;> rfl
@[simp] theorem writesOf_alu (op : AluOp) : writesOf (Instr.alu op o) = { f := true } := by
  cases o with
  | reg r => cases op <;> cases r <;> rfl
  | atHL => cases op <;> rfl
@[simp] theorem writesOf_aluImm (op : AluOp) : writesOf (Instr.aluImm v op) = { f := true } := by cases op <;> rfl
@[simp] theorem writesOf_inc : writesOf (Instr.inc o) = { f := true } := by
  cases o with
  | reg r => cases r <;> rfl
  | atHL => rfl
@[simp] theorem writesOf_dec : writesOf (Instr.dec o) = { f := true } := by
  cases o with
  | reg r => cases r <;> rfl
  | atHL => rfl
@[simp] theorem writesOf_rot (op : RotOp) : writesOf (Instr.rot op o) = { f := true } := by
  cases o with
  | reg r => cases op <;> cases r <;> rfl
  | atHL => cases op <;> rfl
@[simp] theorem writesOf_bit : writesOf (Instr.bit k o) = { f := true } := by
  cases o with
  | reg r => fin_cases k <;> cases r <;> rfl
  | atHL => fin_cases k <;> rfl
@[simp] theorem writesOf_res : writesOf (Instr.res k o) = {} := by
  cases o with
  | reg r => fin_cases k <;> cases r <;> rfl
  | atHL => fin_cases k <;> rfl
@[simp] theorem writesOf_set : writesOf (Instr.set k o) = {} := by
  cases o with
  | reg r => fin_cases k <;> cases r <;> rfl
  | atHL => fin_cases k <;> rfl
@[simp] theorem writesOf_jpCond : writesOf (Instr.jpCond w cc) = { pc := true } := by cases cc <;> rfl
@[simp] theorem writesOf_jrCond : writesOf (Instr.jrCond v cc) = { pc := true } := by cases cc <;> rfl
@[simp] theorem writesOf_callCond : writesOf (Instr.callCond w cc) = { sp := true, pc := true } := by cases cc <;> rfl
@[simp] theorem writesOf_retCond : writesOf (Instr.retCond cc) = { sp := true, pc := true } := by cases cc <;> rfl
@[simp] theorem writesOf_rst : writesOf (Instr.rst k) = { sp := true, pc := true } := by fin_cases k <;> rfl
@[simp] theorem writesOf_undefinedOp (u : UndefinedOp) : writesOf (Instr.undefinedOp u) = {} := by cases u <;> rfl

end

/-! ## Writing only what a row of the table names -/

/-- From `s` to `t`, IME, SP, PC and F are unchanged unless `w` names them. -/
structure Writes.Allows (w : Writes) (s t : State) : Prop where
  ime : w.ime = false → t.ime = s.ime
  sp : w.sp = false → t.regs.sp = s.regs.sp
  pc : w.pc = false → t.regs.pc = s.regs.pc
  f : w.f = false → t.regs.f = s.regs.f

/-- Whatever next state `o` answers, `w` allows it. -/
def Writes.AllowsOut (w : Writes) (s : State) (o : Out) : Prop := ∀ t, o = .next t → w.Allows s t

section
variable {w : Writes} {s t u : State}

theorem Writes.Allows.refl : w.Allows s s := ⟨fun _ => rfl, fun _ => rfl, fun _ => rfl, fun _ => rfl⟩

theorem Writes.Allows.setReg8 (h : w.Allows s t) (x : Reg8) (v : Byte) : w.Allows s (t.setReg8 x v) :=
  ⟨h.ime, fun hw => (Regs.set8_sp _ _ _).trans (h.sp hw), fun hw => (Regs.set8_pc _ _ _).trans (h.pc hw),
    fun hw => (Regs.set8_f _ _ _).trans (h.f hw)⟩

theorem Writes.Allows.setPair (h : w.Allows s t) {p : Pair} (hp : p = .sp → w.sp = true) (v : Word) :
    w.Allows s (t.setPair p v) := by
  refine ⟨h.ime, fun hw => ?_, fun hw => (Regs.setPair_pc _ _ _).trans (h.pc hw),
    fun hw => (Regs.setPair_f _ _ _).trans (h.f hw)⟩
  cases p
  case sp => rw [hp rfl] at hw; cases hw
  all_goals exact h.sp hw

theorem Writes.Allows.setHl (h : w.Allows s t) (v : Word) : w.Allows s (t.setPair .hl v) :=
  h.setPair Pair.noConfusion v

theorem Writes.Allows.setStackPair (h : w.Allows s t) {q : StackPair} (hq : q = .af → w.f = true) (v : Word) :
    w.Allows s (t.setStackPair q v) := by
  refine ⟨h.ime, fun hw => (Regs.setStackPair_sp _ _ _).trans (h.sp hw),
    fun hw => (Regs.setStackPair_pc _ _ _).trans (h.pc hw), fun hw => ?_⟩
  cases q
  case af => rw [hq rfl] at hw; cases hw
  all_goals exact h.f hw

theorem Writes.Allows.setSp (h : w.Allows s t) (hw : w.sp = true) (v : Word) : w.Allows s (t.setSp v) :=
  { h with sp := fun hn => by rw [hw] at hn; cases hn }

theorem Writes.Allows.setPc (h : w.Allows s t) (hw : w.pc = true) (v : Word) : w.Allows s (t.setPc v) :=
  { h with pc := fun hn => by rw [hw] at hn; cases hn }

theorem Writes.Allows.setFlags (h : w.Allows s t) (hw : w.f = true) (z n hf c : Bool) :
    w.Allows s (t.setFlags z n hf c) :=
  { h with f := fun hn => by rw [hw] at hn; cases hn }

theorem Writes.Allows.setIme (h : w.Allows s t) (hw : w.ime = true) (b : Bool) : w.Allows s (t.setIme b) :=
  { h with ime := fun hn => by rw [hw] at hn; cases hn }

/-- A store writes no CPU register (R202). -/
theorem Writes.Allows.store (h : w.Allows s t) {a : Word} {v : Byte} (hb : busWrite t a v = .ok u) : w.Allows s u := by
  have frame := busWrite_frame hb
  exact ⟨fun hw => frame.ime.trans (h.ime hw), fun hw => frame.regs ▸ h.sp hw, fun hw => frame.regs ▸ h.pc hw,
    fun hw => frame.regs ▸ h.f hw⟩

/-! ## The shared operations -/

theorem allows_next (h : w.Allows s u) : w.AllowsOut s (.next u) := by
  intro t ht
  cases ht
  exact h

theorem allows_raiseFault (h : w.Allows s u) (e : Trap) : w.AllowsOut s (raiseFault u e) := allows_next { h with }

theorem allows_readByte {a : Word} {k : Byte → Out} (h : w.Allows s u) (hk : ∀ v, w.AllowsOut s (k v)) :
    w.AllowsOut s (readByte u a k) := by
  unfold readByte
  split
  · exact hk _
  · exact allows_raiseFault h _

theorem allows_writeByte {a : Word} {v : Byte} {k : State → Out} (h : w.Allows s u)
    (hk : ∀ u', w.Allows s u' → w.AllowsOut s (k u')) : w.AllowsOut s (writeByte u a v k) := by
  unfold writeByte
  split
  case h_1 hb => exact hk _ (h.store hb)
  case h_2 => exact allows_raiseFault h _

theorem allows_writeWord {a v : Word} {k : State → Out} (h : w.Allows s u)
    (hk : ∀ u', w.Allows s u' → w.AllowsOut s (k u')) : w.AllowsOut s (writeWord u a v k) :=
  allows_writeByte h fun _ h1 => allows_writeByte h1 hk

theorem allows_push16 {v : Word} {k : State → Out} (hw : w.sp = true)
    (hk : ∀ u, w.Allows s u → w.AllowsOut s (k u)) : w.AllowsOut s (push16 s v k) :=
  allows_writeWord (Writes.Allows.refl.setSp hw _) hk

theorem allows_pop16 {k : Word → State → Out} (hw : w.sp = true)
    (hk : ∀ v u, w.Allows s u → w.AllowsOut s (k v u)) : w.AllowsOut s (pop16 s k) :=
  allows_readByte .refl fun _ => allows_readByte .refl fun _ => hk _ _ (Writes.Allows.refl.setSp hw _)

theorem allows_readOperand8 {o : Operand8} {k : Byte → Out} (hk : ∀ v, w.AllowsOut s (k v)) :
    w.AllowsOut s (readOperand8 o s k) := by
  cases o with
  | reg r => exact hk _
  | atHL => exact allows_readByte .refl hk

theorem allows_writeOperand8 {o : Operand8} {v : Byte} {k : State → Out}
    (hk : ∀ u, w.Allows s u → w.AllowsOut s (k u)) : w.AllowsOut s (writeOperand8 o v s k) := by
  cases o with
  | reg r => exact hk _ (Writes.Allows.refl.setReg8 r v)
  | atHL => exact allows_writeByte .refl hk

/-! ## The meanings -/

theorem allows_loadFrom (dst : Reg8) (a : Word) : w.AllowsOut s (loadFrom dst a s) :=
  allows_readByte .refl fun v => allows_next (Writes.Allows.refl.setReg8 dst v)

theorem allows_storeTo (a : Word) (v : Byte) : w.AllowsOut s (storeTo a v s) :=
  allows_writeByte .refl fun _ => allows_next

theorem allows_loadStep (delta : Word) : w.AllowsOut s (loadStep delta s) :=
  allows_readByte .refl fun v => allows_next ((Writes.Allows.refl.setReg8 .a v).setHl _)

theorem allows_storeStep (delta : Word) : w.AllowsOut s (storeStep delta s) :=
  allows_writeByte .refl fun _ hu => allows_next (hu.setHl _)

theorem allows_applyAlu (hw : w.f = true) (op : AluOp) (v : Byte) : w.Allows s (applyAlu op v s) := by
  unfold applyAlu
  dsimp only
  split
  · exact (Writes.Allows.refl.setReg8 .a _).setFlags hw _ _ _ _
  · exact Writes.Allows.refl.setFlags hw _ _ _ _

theorem allows_writeBack (hw : w.f = true) (o : Operand8) (r : AluResult) : w.AllowsOut s (writeBack o r s) :=
  allows_writeOperand8 fun _ hu => allows_next (hu.setFlags hw _ _ _ _)

theorem allows_jumpIf (hw : w.pc = true) (cc : Cond) (a : Word) : w.AllowsOut s (jumpIf cc a s) := by
  unfold jumpIf
  split
  · exact allows_next (Writes.Allows.refl.setPc hw a)
  · exact allows_next .refl

theorem allows_call (hsp : w.sp = true) (hpc : w.pc = true) (a : Word) : w.AllowsOut s (call a s) :=
  allows_push16 hsp fun _ hu => allows_next (hu.setPc hpc a)

theorem allows_ret (hsp : w.sp = true) (hpc : w.pc = true) : w.AllowsOut s (ret s) :=
  allows_pop16 hsp fun _ _ hu => allows_next (hu.setPc hpc _)

theorem allows_returnFromInterrupt (hime : w.ime = true) (hsp : w.sp = true) (hpc : w.pc = true) :
    w.AllowsOut s (returnFromInterrupt s) :=
  allows_pop16 hsp fun v _ hu => allows_next ((hu.setPc hpc v).setIme hime true)

end

/-- EVERY INSTRUCTION WRITES ONLY WHAT ITS ROW NAMES, of IME, SP, PC and F. -/
theorem writesOf_allows_exec (i : Instr) : ∀ s : State, (writesOf i).AllowsOut s (exec i s) := by
  induction i using Instr.by_family <;> intro s
  case ldRegReg => rw [exec_ldRegReg]; exact allows_next (Writes.Allows.refl.setReg8 _ _)
  case ldRegImm => rw [exec_ldRegImm]; exact allows_next (Writes.Allows.refl.setReg8 _ _)
  case ldRegAtHL => rw [exec_ldRegAtHL]; exact allows_loadFrom _ _
  case ldAtHLReg => rw [exec_ldAtHLReg]; exact allows_storeTo _ _
  case ldPairImm => rw [exec_ldPairImm]; exact allows_next (Writes.Allows.refl.setPair (by simp) _)
  case incPair => rw [exec_incPair]; exact allows_next (Writes.Allows.refl.setPair (by simp) _)
  case decPair => rw [exec_decPair]; exact allows_next (Writes.Allows.refl.setPair (by simp) _)
  case addHLPair =>
    rw [exec_addHLPair]; exact allows_next ((Writes.Allows.refl.setHl _).setFlags (by simp) _ _ _ _)
  case push => rw [exec_push]; exact allows_push16 (by simp) fun _ => allows_next
  case pop => rw [exec_pop]; exact allows_pop16 (by simp) fun _ _ hu => allows_next (hu.setStackPair (by simp) _)
  case alu => rw [exec_alu]; exact allows_readOperand8 fun _ => allows_next (allows_applyAlu (by simp) _ _)
  case aluImm => rw [exec_aluImm]; exact allows_next (allows_applyAlu (by simp) _ _)
  case inc => rw [exec_inc]; exact allows_readOperand8 fun _ => allows_writeBack (by simp) _ _
  case dec => rw [exec_dec]; exact allows_readOperand8 fun _ => allows_writeBack (by simp) _ _
  case rot =>
    rw [exec_rot]
    exact allows_readOperand8 fun _ => allows_writeOperand8 fun _ hu => allows_next (hu.setFlags (by simp) _ _ _ _)
  case bit =>
    rw [exec_bit]; exact allows_readOperand8 fun _ => allows_next (Writes.Allows.refl.setFlags (by simp) _ _ _ _)
  case res => rw [exec_res]; exact allows_readOperand8 fun _ => allows_writeOperand8 fun _ => allows_next
  case set => rw [exec_set]; exact allows_readOperand8 fun _ => allows_writeOperand8 fun _ => allows_next
  case jpCond => rw [exec_jpCond]; exact allows_jumpIf (by simp) _ _
  case jrCond => rw [exec_jrCond]; exact allows_jumpIf (by simp) _ _
  case callCond =>
    rw [exec_callCond, callIf]
    split
    · exact allows_call (by simp) (by simp) _
    · exact allows_next .refl
  case retCond =>
    rw [exec_retCond, retIf]
    split
    · exact allows_ret (by simp) (by simp)
    · exact allows_next .refl
  case rst => rw [exec_rst]; exact allows_call (by simp) (by simp) _
  case undefinedOp u => cases u <;> exact allows_raiseFault .refl _
  case ld_atA16_SP => exact allows_writeWord .refl fun _ => allows_next
  case nop | halt | stop => exact allows_next .refl
  case ld_atHL_d8 | ldh_atA8_A | ld_atA16_A | ld_atBC_A | ld_atDE_A | ld_atC_A => exact allows_storeTo _ _
  case ldh_A_atA8 | ld_A_atA16 | ld_A_atBC | ld_A_atDE | ld_A_atC => exact allows_loadFrom _ _
  case ld_atHLI_A | ld_atHLD_A => exact allows_storeStep _
  case ld_A_atHLI | ld_A_atHLD => exact allows_loadStep _
  case jr_r8 | jp_a16 | jp_HL => exact allows_next (Writes.Allows.refl.setPc rfl _)
  case call_a16 => exact allows_call rfl rfl _
  case ret => exact allows_ret rfl rfl
  case reti => exact allows_returnFromInterrupt rfl rfl rfl
  case add_SP_r8 => exact allows_next ((Writes.Allows.refl.setSp rfl _).setFlags rfl _ _ _ _)
  case ld_HL_SPr8 => exact allows_next ((Writes.Allows.refl.setHl _).setFlags rfl _ _ _ _)
  case rlca | rrca | rla | rra | daa | cpl =>
    exact allows_next ((Writes.Allows.refl.setReg8 .a _).setFlags rfl _ _ _ _)
  case scf | ccf => exact allows_next (Writes.Allows.refl.setFlags rfl _ _ _ _)
  case di | ei => exact allows_next (Writes.Allows.refl.setIme rfl _)
  case ld_SP_HL => exact allows_next (Writes.Allows.refl.setSp rfl _)

/-- Settles O18: the table bounds IME, SP, PC and F, and evolution leaves the ring and the devices' position alone. -/
theorem controlRegistersChangeOnlyWhereNamed : Obligations.ControlRegistersChangeOnlyWhereNamed := by
  unfold Obligations.ControlRegistersChangeOnlyWhereNamed
  intro s t i h
  obtain ⟨ime, sp, pc, f⟩ := writesOf_allows_exec i s t h
  have frame := (exec_evolves i h).frame
  exact ⟨ime, sp, pc, f, frame.history, frame.line, frame.dot, frame.fb, frame.master, frame.buttons, frame.dpad⟩

end Sys2Proof.Machine
end

section
/-! PROOFS. The mappers (20_memory.md R212 to R222): where each window is read and written, and what each register window
stores. -/

namespace Sys2Proof.Machine

/-! ## Bounds-checked accesses (R222) -/

section
variable (c : Cartridge) (off : Nat) (a : Word) (v : Byte)

theorem romAt_checksBounds : ChecksBounds (c.romAt off a) c.rom off c.romLen a :=
  ⟨fun h => if_pos h, fun h => if_neg (Nat.not_lt.mpr h)⟩

theorem eramAt_checksBounds : ChecksBounds (c.eramAt off a) c.eram off c.eramLen a :=
  ⟨fun h => if_pos h, fun h => if_neg (Nat.not_lt.mpr h)⟩

theorem eramPut_storesEram : StoresEram (c.eramPut off v a) c off v a :=
  ⟨fun h => if_pos h, fun h => if_neg (Nat.not_lt.mpr h)⟩

end

/-! ## The mapper of the variant (R212) -/

section
variable {c : Cartridge} (a : Word) (v : Byte)

theorem mapperRead_noMbc (h : c.mapper = .noMbc) : mapperRead c a = noMbcRead c a := by rw [mapperRead, h]

theorem mapperWrite_noMbc (h : c.mapper = .noMbc) : mapperWrite c a v = noMbcWrite c a v := by rw [mapperWrite, h]

theorem mapperRead_mbc1 {r : Mbc1} (h : c.mapper = .mbc1 r) : mapperRead c a = mbc1Read c r a := by rw [mapperRead, h]

theorem mapperWrite_mbc1 {r : Mbc1} (h : c.mapper = .mbc1 r) : mapperWrite c a v = mbc1Write c r a v := by
  rw [mapperWrite, h]

theorem mapperRead_mbc3 {r : Mbc3} (h : c.mapper = .mbc3 r) : mapperRead c a = mbc3Read c r a := by rw [mapperRead, h]

theorem mapperWrite_mbc3 {r : Mbc3} (h : c.mapper = .mbc3 r) : mapperWrite c a v = mbc3Write c r a v := by
  rw [mapperWrite, h]

end

/-! ## NoMbc -/

section
variable (c : Cartridge) {a : Word} (v : Byte)

theorem noMbcRead_rom (h : a.toNat < 0x8000) : noMbcRead c a = c.romAt a.toNat a := if_pos h

theorem noMbcWrite_rom (h : a.toNat < 0x8000) : noMbcWrite c a v = .ok c := if_pos h

theorem noMbcRead_eram (h : 0xA000 ≤ a.toNat) : noMbcRead c a = c.eramAt (a.toNat - 0xA000) a := if_neg (by omega)

theorem noMbcWrite_eram (h : 0xA000 ≤ a.toNat) : noMbcWrite c a v = c.eramPut (a.toNat - 0xA000) v a :=
  if_neg (by omega)

end

/-- Settles O24: NoMbc reads and writes by offset, bounds-checked. -/
theorem noMbcReadsAndWrites : Obligations.NoMbcReadsAndWrites := by
  unfold Obligations.NoMbcReadsAndWrites
  intro c a v hm
  rw [mapperRead_noMbc a hm, mapperWrite_noMbc a v hm]
  constructor
  · intro h
    rw [noMbcRead_rom c h]
    exact ⟨romAt_checksBounds c _ a, noMbcWrite_rom c v h⟩
  · intro h _
    rw [noMbcRead_eram c h, noMbcWrite_eram c v h]
    exact ⟨eramAt_checksBounds c _ a, eramPut_storesEram c _ a v⟩

/-! ## The values that the register windows store -/

section
variable (v : Byte)

/-- The low nibble 0xA enables RAM (R215, R219). -/
theorem enablesRam_eq : enablesRam v = decide (v.toNat % 16 = 0xA) := by
  have nibble : (v &&& 0x0F).toNat = v.toNat % 16 := by
    rw [BitVec.toNat_and]
    exact Nat.and_two_pow_sub_one_eq_mod v.toNat 4
  unfold enablesRam
  rw [decide_eq_decide, ← BitVec.toNat_inj, nibble]
  rfl

/-- Keeping the low bits of a byte is reducing it modulo their number. -/
theorem setWidth_eq_ofNat_mod (n : Nat) : v.setWidth n = BitVec.ofNat n (v.toNat % 2 ^ n) := by
  apply BitVec.eq_of_toNat_eq
  simp

theorem setWidth_eq_zero_iff (n : Nat) : v.setWidth n = 0#n ↔ v.toNat % 2 ^ n = 0 := by
  rw [← BitVec.toNat_inj, BitVec.toNat_setWidth, BitVec.toNat_ofNat, Nat.zero_mod]

/-- The bank value kept, with 0 taken as 1 (R215, R219). -/
theorem bankValue_eq (n : Nat) : (if v.setWidth n = 0#n then 1#n else v.setWidth n) =
    BitVec.ofNat n (if v.toNat % 2 ^ n = 0 then 1 else v.toNat % 2 ^ n) := by
  rw [apply_ite (BitVec.ofNat n), ← setWidth_eq_ofNat_mod]
  exact if_congr (setWidth_eq_zero_iff v n) rfl rfl

theorem mbc1Bank_eq : mbc1Bank v = BitVec.ofNat 5 (if v.toNat % 32 = 0 then 1 else v.toNat % 32) := bankValue_eq v 5

theorem mbc3Bank_eq : mbc3Bank v = BitVec.ofNat 7 (if v.toNat % 128 = 0 then 1 else v.toNat % 128) := bankValue_eq v 7

end

/-! ## Mbc1 -/

section
variable (c : Cartridge) (r : Mbc1) {a : Word} (v : Byte) (n : Nat)

theorem Mbc1.rom0Offset_eq :
    r.rom0Offset n = n + if r.advanced then 0x4000 * (32 * r.secondaryBank.toNat) else 0 := by
  rw [Mbc1.rom0Offset, Nat.shiftLeft_eq, Nat.mul_comm _ (2 ^ 5)]
  rfl

/-- The bank register has five bits, so the OR of R217 is a sum. -/
theorem Mbc1.rom1Offset_eq :
    r.rom1Offset n = (n - 0x4000) + 0x4000 * (32 * r.secondaryBank.toNat + r.romBank.toNat) := by
  rw [Mbc1.rom1Offset, ← Nat.shiftLeft_add_eq_or_of_lt r.romBank.isLt, Nat.shiftLeft_eq, Nat.mul_comm _ (2 ^ 5)]
  rfl

theorem mbc1Read_rom0 (h : a.toNat < 0x4000) : mbc1Read c r a = c.romAt (r.rom0Offset a.toNat) a := if_pos h

theorem mbc1Read_rom1 (h : 0x4000 ≤ a.toNat) (h2 : a.toNat < 0x8000) :
    mbc1Read c r a = c.romAt (r.rom1Offset a.toNat) a := by
  rw [mbc1Read, if_neg (by omega), if_pos h2]

theorem mbc1Read_ram (h : 0xA000 ≤ a.toNat) :
    mbc1Read c r a = if r.ramEnable then c.eramAt (r.ramOffset a.toNat) a else .ok 0xFF := by
  rw [mbc1Read, if_neg (by omega), if_neg (by omega)]

theorem mbc1Write_reg (h : a.toNat < 0x8000) : mbc1Write c r a v = .ok { c with mapper := .mbc1 (r.writeReg a v) } :=
  if_pos h

theorem mbc1Write_ram (h : 0xA000 ≤ a.toNat) :
    mbc1Write c r a v = if r.ramEnable then c.eramPut (r.ramOffset a.toNat) v a else .ok c := by
  rw [mbc1Write, if_neg (by omega)]

theorem Mbc1.writeReg_enable (h : a.toNat < 0x2000) :
    r.writeReg a v = { r with ramEnable := decide (v.toNat % 16 = 0xA) } := by
  rw [Mbc1.writeReg, if_pos h, enablesRam_eq]

theorem Mbc1.writeReg_bank (h : 0x2000 ≤ a.toNat) (h2 : a.toNat < 0x4000) :
    r.writeReg a v = { r with romBank := BitVec.ofNat 5 (if v.toNat % 32 = 0 then 1 else v.toNat % 32) } := by
  rw [Mbc1.writeReg, if_neg (by omega), if_pos h2, mbc1Bank_eq]

theorem Mbc1.writeReg_secondary (h : 0x4000 ≤ a.toNat) (h2 : a.toNat < 0x6000) :
    r.writeReg a v = { r with secondaryBank := BitVec.ofNat 2 (v.toNat % 4) } := by
  rw [Mbc1.writeReg, if_neg (by omega), if_neg (by omega), if_pos h2, setWidth_eq_ofNat_mod]
  rfl

theorem Mbc1.writeReg_mode (h : 0x6000 ≤ a.toNat) : r.writeReg a v = { r with advanced := decide (v.toNat % 2 = 1) } := by
  rw [Mbc1.writeReg, if_neg (by omega), if_neg (by omega), if_neg (by omega), BitVec.getLsbD, Nat.testBit_zero]

end

/-- Settles O25: window by window, with the offsets written as sums. -/
theorem mbc1ReadsAndWrites : Obligations.Mbc1ReadsAndWrites := by
  unfold Obligations.Mbc1ReadsAndWrites
  intro c r a v hm off
  rw [mapperRead_mbc1 a hm, mapperWrite_mbc1 a v hm]
  refine ⟨?rom0, ?rom1, ?enabled, ?disabled, ?enable, ?bank, ?secondary, ?mode⟩
  case rom0 =>
    intro h
    rw [mbc1Read_rom0 c r h, ← Mbc1.rom0Offset_eq]
    exact romAt_checksBounds c _ a
  case rom1 =>
    intro h h2
    rw [mbc1Read_rom1 c r h h2, ← Mbc1.rom1Offset_eq]
    exact romAt_checksBounds c _ a
  case enabled =>
    intro h _ he
    rw [mbc1Read_ram c r h, mbc1Write_ram c r v h, if_pos he, if_pos he]
    exact ⟨eramAt_checksBounds c _ a, eramPut_storesEram c _ a v⟩
  case disabled =>
    intro h _ he
    rw [mbc1Read_ram c r h, mbc1Write_ram c r v h, he]
    exact ⟨rfl, rfl⟩
  case enable =>
    intro h
    rw [mbc1Write_reg c r v (by omega), r.writeReg_enable v h]
  case bank =>
    intro h h2
    rw [mbc1Write_reg c r v (by omega), r.writeReg_bank v h h2]
  case secondary =>
    intro h h2
    rw [mbc1Write_reg c r v (by omega), r.writeReg_secondary v h h2]
  case mode =>
    intro h h2
    rw [mbc1Write_reg c r v h2, r.writeReg_mode v h]

/-! ## Mbc3 -/

/-- The RTC bytes are those of selectors 0x08 to 0x0C (R219). -/
theorem rtcByte_eq (t : Rtc) (k : Nat) :
    rtcByte t k = if 0x08 ≤ k ∧ k ≤ 0x0C then some (t.get (k - 0x08)) else none := by
  split
  case isTrue h =>
    obtain ⟨h1, h2⟩ := h
    interval_cases k <;> rfl
  case isFalse h =>
    have key : ∀ j, 0x08 ≤ j ∧ j ≤ 0x0C → (k == j) = false := fun j hj => beq_eq_false_iff_ne.mpr fun hk => h (hk ▸ hj)
    simp [rtcByte, List.lookup, key]

/-- Writing one RTC byte writes that one alone (R219). -/
theorem Rtc.get_set (t : Rtc) {j k : Nat} (hj : j ≤ 4) (hk : k ≤ 4) (v : Byte) :
    (t.set j v).get k = if k = j then v else t.get k := by
  interval_cases j <;> interval_cases k <;> rfl

section
variable (c : Cartridge) (r : Mbc3) {a : Word} (v : Byte)

theorem mbc3Read_rom0 (h : a.toNat < 0x4000) : mbc3Read c r a = c.romAt a.toNat a := if_pos h

theorem mbc3Read_rom1 (h : 0x4000 ≤ a.toNat) (h2 : a.toNat < 0x8000) :
    mbc3Read c r a = c.romAt (r.rom1Offset a.toNat) a := by
  rw [mbc3Read, if_neg (by omega), if_pos h2]

theorem mbc3Read_disabled (h : 0xA000 ≤ a.toNat) (he : r.ramEnable = false) : mbc3Read c r a = .ok 0xFF := by
  rw [mbc3Read, if_neg (by omega), if_neg (by omega), if_pos he]

theorem mbc3Read_enabled (h : 0xA000 ≤ a.toNat) (he : r.ramEnable = true) :
    mbc3Read c r a =
      if r.select.toNat ≤ 0x03 then c.eramAt (r.ramOffset a.toNat) a
      else if 0x08 ≤ r.select.toNat ∧ r.select.toNat ≤ 0x0C then .ok (r.latched.get (r.select.toNat - 0x08))
      else .error (outOfBounds a) := by
  rw [mbc3Read, if_neg (by omega), if_neg (by omega), if_neg (by simp [he])]

theorem mbc3Write_reg (h : a.toNat < 0x8000) : mbc3Write c r a v = .ok { c with mapper := .mbc3 (r.writeReg a v) } :=
  if_pos h

theorem mbc3Write_disabled (h : 0xA000 ≤ a.toNat) (he : r.ramEnable = false) : mbc3Write c r a v = .ok c := by
  rw [mbc3Write, if_neg (by omega), if_pos he]

theorem mbc3Write_enabled (h : 0xA000 ≤ a.toNat) (he : r.ramEnable = true) :
    mbc3Write c r a v =
      if r.select.toNat ≤ 0x03 then c.eramPut (r.ramOffset a.toNat) v a
      else if 0x08 ≤ r.select.toNat ∧ r.select.toNat ≤ 0x0C then
        .ok { c with mapper := .mbc3 { r with rtc := r.rtc.set (r.select.toNat - 0x08) v } }
      else .error (outOfBounds a) := by
  rw [mbc3Write, if_neg (by omega), if_neg (by simp [he])]

theorem Mbc3.writeReg_enable (h : a.toNat < 0x2000) :
    r.writeReg a v = { r with ramEnable := decide (v.toNat % 16 = 0xA) } := by
  rw [Mbc3.writeReg, if_pos h, enablesRam_eq]

theorem Mbc3.writeReg_bank (h : 0x2000 ≤ a.toNat) (h2 : a.toNat < 0x4000) :
    r.writeReg a v = { r with romBank := BitVec.ofNat 7 (if v.toNat % 128 = 0 then 1 else v.toNat % 128) } := by
  rw [Mbc3.writeReg, if_neg (by omega), if_pos h2, mbc3Bank_eq]

theorem Mbc3.writeReg_select (h : 0x4000 ≤ a.toNat) (h2 : a.toNat < 0x6000) :
    r.writeReg a v = { r with select := v } := by
  rw [Mbc3.writeReg, if_neg (by omega), if_neg (by omega), if_pos h2]

theorem Mbc3.writeReg_latch (h : 0x6000 ≤ a.toNat) : r.writeReg a v = { r with latched := r.rtc } := by
  rw [Mbc3.writeReg, if_neg (by omega), if_neg (by omega), if_neg (by omega)]

/-- The enabled RAM window by selector: a RAM bank, an RTC byte (read from the latch, written live), or a fault (R221). -/
theorem mbc3_enabledWindow (h : 0xA000 ≤ a.toNat) (he : r.ramEnable = true) :
    (r.select.toNat ≤ 0x03 → ChecksBounds (mbc3Read c r a) c.eram (r.ramOffset a.toNat) c.eramLen a ∧
      StoresEram (mbc3Write c r a v) c (r.ramOffset a.toNat) v a) ∧
    (∀ x, rtcByte r.latched r.select.toNat = some x → mbc3Read c r a = .ok x) ∧
    (0x08 ≤ r.select.toNat → r.select.toNat ≤ 0x0C → ∃ rtc,
      mbc3Write c r a v = .ok { c with mapper := .mbc3 { r with rtc := rtc } } ∧ rtcByte rtc r.select.toNat = some v ∧
      ∀ k, k ≠ r.select.toNat → rtcByte rtc k = rtcByte r.rtc k) ∧
    (0x03 < r.select.toNat → rtcByte r.latched r.select.toNat = none →
      mbc3Read c r a = .error ⟨.outOfBounds, a⟩ ∧ mbc3Write c r a v = .error ⟨.outOfBounds, a⟩) := by
  rw [mbc3Read_enabled c r h he, mbc3Write_enabled c r v h he]
  refine ⟨?ramBank, ?rtcRead, ?rtcWrite, ?other⟩
  case ramBank =>
    intro hs
    rw [if_pos hs, if_pos hs]
    exact ⟨eramAt_checksBounds c _ a, eramPut_storesEram c _ a v⟩
  case rtcRead =>
    intro x hx
    rw [rtcByte_eq] at hx
    split at hx
    case isTrue hs =>
      cases hx
      rw [if_neg (by omega), if_pos hs]
    case isFalse => cases hx
  case rtcWrite =>
    intro h1 h2
    refine ⟨r.rtc.set (r.select.toNat - 0x08) v, by rw [if_neg (by omega), if_pos ⟨h1, h2⟩], ?_, fun k hk => ?_⟩
    · rw [rtcByte_eq, if_pos ⟨h1, h2⟩, Rtc.get_set _ (by omega) (by omega), if_pos rfl]
    · rw [rtcByte_eq, rtcByte_eq]
      split
      case isTrue hb => rw [Rtc.get_set _ (by omega) (by omega), if_neg (by omega)]
      case isFalse => rfl
  case other =>
    intro h3 hn
    have hs : ¬ (0x08 ≤ r.select.toNat ∧ r.select.toNat ≤ 0x0C) := by
      intro hs
      rw [rtcByte_eq, if_pos hs] at hn
      cases hn
    rw [if_neg (by omega), if_neg hs, if_neg (by omega), if_neg hs]
    exact ⟨rfl, rfl⟩

end

/-- Settles O26: window by window, the enabled RAM window by selector. -/
theorem mbc3ReadsAndWrites : Obligations.Mbc3ReadsAndWrites := by
  unfold Obligations.Mbc3ReadsAndWrites
  intro c r a v hm off
  rw [mapperRead_mbc3 a hm, mapperWrite_mbc3 a v hm]
  refine ⟨?rom0, ?rom1, ?disabled, ?enabled, ?enable, ?bank, ?select, ?latch⟩
  case rom0 =>
    intro h
    rw [mbc3Read_rom0 c r h]
    exact romAt_checksBounds c _ a
  case rom1 =>
    intro h h2
    rw [mbc3Read_rom1 c r h h2]
    exact romAt_checksBounds c _ a
  case disabled => exact fun h _ he => ⟨mbc3Read_disabled c r h he, mbc3Write_disabled c r v h he⟩
  case enabled => exact fun h _ he => mbc3_enabledWindow c r v h he
  case enable =>
    intro h
    rw [mbc3Write_reg c r v (by omega), r.writeReg_enable v h]
  case bank =>
    intro h h2
    rw [mbc3Write_reg c r v (by omega), r.writeReg_bank v h h2]
  case select =>
    intro h h2
    rw [mbc3Write_reg c r v (by omega), r.writeReg_select v h h2]
  case latch =>
    intro h h2
    rw [mbc3Write_reg c r v h2, r.writeReg_latch v h]

end Sys2Proof.Machine
end

section
/-! PROOFS. The loader (20_memory.md R230 to R234): what each check answers, and the machine of an accepted file. -/

namespace Sys2Proof.Machine

/-! ## The tables -/

theorem romBankCount_eq_ok {k : Byte} {n : Nat} (h : romBankCount k = .ok n) : k.toNat ≤ 8 ∧ n = 2 <<< k.toNat := by
  unfold romBankCount at h
  split at h
  · cases h; exact ⟨‹_›, rfl⟩
  · cases h

/-- The ROM bank counts of R232. -/
theorem romBankCount_mem {k : Byte} {n : Nat} (h : romBankCount k = .ok n) : n ∈ [2, 4, 8, 16, 32, 64, 128, 256, 512] := by
  obtain ⟨hk, rfl⟩ := romBankCount_eq_ok h
  generalize k.toNat = j at hk
  interval_cases j <;> decide

/-- The ERAM bank counts of R233. -/
theorem ramBankCount_mem {k : Byte} {n : Nat} (h : ramBankCount k = .ok n) : n ∈ [0, 1, 4, 8, 16] := by
  unfold ramBankCount at h
  split at h <;> cases h <;> decide

theorem ramBankCount_of_mem {k : Byte} {n : Nat}
    (h : (k, n) ∈ ([(0, 0), (1, 1), (2, 1), (3, 4), (4, 16), (5, 8)] : List (Byte × Nat))) : ramBankCount k = .ok n := by
  fin_cases h <;> rfl

theorem ramBankCount_of_gt {k : Byte} (h : 5 < k.toNat) : ramBankCount k = .error .badValue := by
  unfold ramBankCount
  split
  case h_7 => rfl
  all_goals omega

theorem cartridgeType_of_mem {t : Byte} {v : Variant} {battery : Bool}
    (h : (t, v, battery) ∈ ([(0x00, .noMbc, false), (0x08, .noMbc, false), (0x09, .noMbc, true),
      (0x01, .mbc1, false), (0x02, .mbc1, false), (0x03, .mbc1, true), (0x0F, .mbc3, true), (0x10, .mbc3, true),
      (0x11, .mbc3, false), (0x12, .mbc3, false), (0x13, .mbc3, true)] : List (Byte × Variant × Bool))) :
    cartridgeType t = .ok (v, battery) := by
  fin_cases h <;> rfl

theorem cartridgeType_supported {t : Byte}
    (h : t ∈ ([0x00, 0x08, 0x09, 0x01, 0x02, 0x03, 0x0F, 0x10, 0x11, 0x12, 0x13] : List Byte)) :
    ∃ kind, cartridgeType t = .ok kind := by
  fin_cases h <;> exact ⟨_, rfl⟩

theorem cartridgeType_unsupported {t : Byte}
    (h : t ∈ ([0x05, 0x06, 0x0B, 0x0C, 0x0D, 0x19, 0x1A, 0x1B, 0x1C, 0x1D, 0x1E, 0x20, 0x22, 0xFC, 0xFD, 0xFE, 0xFF] :
      List Byte)) : cartridgeType t = .error .unsupported := by
  fin_cases h <;> rfl

/-- Every type byte of no row of R231, checked over the 256 bytes. -/
theorem cartridgeType_unlisted : ∀ t : Byte,
    t ∉ ([0x05, 0x06, 0x0B, 0x0C, 0x0D, 0x19, 0x1A, 0x1B, 0x1C, 0x1D, 0x1E, 0x20, 0x22, 0xFC, 0xFD, 0xFE, 0xFF, 0x00, 0x08,
      0x09, 0x01, 0x02, 0x03, 0x0F, 0x10, 0x11, 0x12, 0x13] : List Byte) → cartridgeType t = .error .badValue := by
  decide

/-! ## The checks in order (R234, log 9) -/

/-- The header that the loader makes of a file once the three codes are looked up (R230). -/
def fileHeader (file : List Byte) (romBanks : Nat) (kind : Variant × Bool) (ramBanks : Nat) : Header where
  title := (List.range 16).map fun k => fileByte file (0x0134 + k)
  variant := kind.1
  romBanks := romBanks
  ramBanks := ramBanks
  battery := kind.2
  headerChecksum := fileByte file 0x014D
  globalChecksum := joinBytes (fileByte file 0x014E) (fileByte file 0x014F)

/-- The machine of a file with those counts. -/
def loadedState (file boot : List Byte) (romBanks : Nat) (kind : Variant × Bool) (ramBanks : Nat) : State :=
  State.resetWith (fileHeader file romBanks kind ramBanks) (Memory.ofBytes 0 file) (Memory.ofBytes 0 boot)

section
variable {file boot : List Byte} {romBanks ramBanks : Nat} {kind : Variant × Bool} {e : LoadError}

theorem load_error (h : parseHeader file = .error e) : State.load file boot = .error e := by
  rw [State.load, h]; rfl

theorem load_romCode_error (h : romBankCount (fileByte file 0x0148) = .error e) : State.load file boot = .error e :=
  load_error (by rw [parseHeader, h]; rfl)

theorem load_size_error (hr : romBankCount (fileByte file 0x0148) = .ok romBanks)
    (hs : file.length ≠ romBanks * Config.romBankSize) : State.load file boot = .error .badRomSize :=
  load_error (by simp [parseHeader, checkRomSize, hr, hs, bind, Except.bind])

variable (hr : romBankCount (fileByte file 0x0148) = .ok romBanks) (hs : file.length = romBanks * Config.romBankSize)
include hr hs

theorem load_type_error (ht : cartridgeType (fileByte file 0x0147) = .error e) : State.load file boot = .error e :=
  load_error (by simp [parseHeader, checkRomSize, hr, hs, ht, bind, Except.bind])

theorem load_ramCode_error (ht : cartridgeType (fileByte file 0x0147) = .ok kind)
    (hm : ramBankCount (fileByte file 0x0149) = .error e) : State.load file boot = .error e :=
  load_error (by simp [parseHeader, checkRomSize, hr, hs, ht, hm, bind, Except.bind])

theorem load_ok (ht : cartridgeType (fileByte file 0x0147) = .ok kind)
    (hm : ramBankCount (fileByte file 0x0149) = .ok ramBanks) :
    State.load file boot = .ok (loadedState file boot romBanks kind ramBanks) := by
  have h : parseHeader file = .ok (fileHeader file romBanks kind ramBanks) := by
    simp [parseHeader, checkRomSize, fileHeader, hr, hs, ht, hm, bind, Except.bind, pure, Except.pure]
  rw [State.load, h]; rfl

end

/-- Which files load, and what they load to. -/
theorem load_eq_ok {file boot : List Byte} {s : State} (h : State.load file boot = .ok s) :
    ∃ romBanks kind ramBanks, romBankCount (fileByte file 0x0148) = .ok romBanks ∧
      file.length = romBanks * Config.romBankSize ∧ ramBankCount (fileByte file 0x0149) = .ok ramBanks ∧
      s = loadedState file boot romBanks kind ramBanks := by
  cases hr : romBankCount (fileByte file 0x0148) with
  | error e => rw [load_romCode_error hr] at h; cases h
  | ok romBanks =>
    by_cases hs : file.length = romBanks * Config.romBankSize
    case neg => rw [load_size_error hr hs] at h; cases h
    cases ht : cartridgeType (fileByte file 0x0147) with
    | error e => rw [load_type_error hr hs ht] at h; cases h
    | ok kind =>
      cases hm : ramBankCount (fileByte file 0x0149) with
      | error e => rw [load_ramCode_error hr hs ht hm] at h; cases h
      | ok ramBanks =>
        rw [load_ok hr hs ht hm] at h
        cases h
        exact ⟨romBanks, kind, ramBanks, rfl, hs, rfl, rfl⟩

/-! ## The invariant of a loaded machine -/

theorem Memory.Fits.mono {m : Memory} {n k : Nat} (h : m.Fits n) (hnk : n ≤ k) : m.Fits k :=
  ⟨h.1, fun c hc => Nat.lt_of_lt_of_le (h.2 c hc) hnk⟩

theorem Memory.fits_nil (n : Nat) : Memory.Fits [] n := ⟨⟨.nil, nofun⟩, nofun⟩

theorem Mapper.reset_variant (v : Variant) : (Mapper.reset v).variant = v := by cases v <;> rfl

theorem Mapper.reset_bankNonzero (v : Variant) : (Mapper.reset v).BankNonzero := by
  cases v
  case noMbc => trivial
  case mbc1 => exact (by decide : (1 : BitVec 5) ≠ 0)
  case mbc3 => exact (by decide : (1 : BitVec 7) ≠ 0)

/-- Reset satisfies the invariant for every legal header, with a ROM of its length and a boot ROM image that fits (R900). -/
theorem State.resetWith_inv {h : Header} {rom boot : Memory} (legal : h.Legal)
    (hrom : rom.Fits (h.romBanks * Config.romBankSize)) (hboot : boot.Fits Config.bootRomSize) :
    (State.resetWith h rom boot).Inv where
  fLow := (by decide : (0 : Byte) &&& 0x0F = 0)
  history := Nat.zero_le _
  wram := Memory.fits_nil _
  hram := Memory.fits_nil _
  vram := Memory.fits_nil _
  bootRom := hboot
  rom := hrom
  eram := Memory.fits_nil _
  header := legal
  variant := Mapper.reset_variant _
  bank := Mapper.reset_bankNonzero _
  statLow := (by decide : (0 : Byte) &&& 0x07 = 0)
  line := (by decide : 0 < Config.frameLines)
  dot := (by decide : 0 < Config.lineDots)
  fb := .nil
  fbCells := nofun

/-- Settles O13: an accepted file has legal bank counts and the length that they give. -/
theorem loadedMachineSatisfiesInvariant : Obligations.LoadedMachineSatisfiesInvariant := by
  unfold Obligations.LoadedMachineSatisfiesInvariant
  intro file boot s hboot h
  obtain ⟨romBanks, kind, ramBanks, hr, hs, hm, rfl⟩ := load_eq_ok h
  refine State.resetWith_inv ⟨romBankCount_mem hr, ramBankCount_mem hm, by simp [fileHeader]⟩ ?_
    ((Memory.ofBytes_fits boot).mono hboot)
  show (Memory.ofBytes 0 file).Fits (romBanks * Config.romBankSize)
  exact hs ▸ Memory.ofBytes_fits file

/-! ## Which files load -/

theorem read_ofBytes_zero (bs : List Byte) (k : Nat) (hk : k < bs.length) : (Memory.ofBytes 0 bs).read k = bs[k] := by
  simpa using Memory.read_ofBytes bs 0 k hk

/-- The title of a file long enough to have one is its sixteen bytes from 0x134 (R230). -/
theorem fileHeader_title {file : List Byte} (h : 0x144 ≤ file.length) (romBanks : Nat) (kind : Variant × Bool)
    (ramBanks : Nat) : (fileHeader file romBanks kind ramBanks).title = (file.drop 0x134).take 16 := by
  apply List.ext_getElem
  · simp [fileHeader]; omega
  · intro k h1 h2
    have hk : 0x134 + k < file.length := by simp [fileHeader] at h1; omega
    simp [fileHeader, fileByte, hk]

/-- An accepted file holds at least two ROM banks (R232). -/
theorem length_of_romBankCount {file : List Byte} {k : Byte} {n : Nat} (h : romBankCount k = .ok n)
    (hs : file.length = n * Config.romBankSize) : 0x8000 ≤ file.length := by
  have hn : 2 ≤ n := by
    have := romBankCount_mem h
    simp at this
    omega
  rw [hs, Config.romBankSize]
  omega

/-- The length that a ROM size code asks for (R232). -/
theorem romBytes_eq (k : Nat) : (2 <<< k) * Config.romBankSize = 0x8000 * 2 ^ k := by
  rw [Nat.shiftLeft_eq, Config.romBankSize]
  omega

/-- Settles O14: each check answers its error in turn, and an accepted file gives the reset state of its header. -/
theorem loaderChecksHeader : Obligations.LoaderChecksHeader := by
  unfold Obligations.LoaderChecksHeader
  intro file boot
  refine ⟨fun _ => ⟨fun hcode => ?_, fun hcode hlen => ?_, fun hcode hlen => ?_⟩, fun s h => ?_⟩
  · exact load_romCode_error (if_neg (Nat.not_le.mpr hcode))
  · exact load_size_error (if_pos hcode) (romBytes_eq _ ▸ hlen)
  · have hr : romBankCount (fileByte file 0x0148) = .ok (2 <<< (fileByte file 0x0148).toNat) := if_pos hcode
    have hs : file.length = (2 <<< (fileByte file 0x0148).toNat) * Config.romBankSize := (romBytes_eq _).symm ▸ hlen
    refine ⟨fun ht => ?_, fun v battery banks ht hm => ?_, fun ht hm => ?_, fun ht => ?_⟩
    · exact load_type_error hr hs (cartridgeType_unsupported ht)
    · exact ⟨_, load_ok hr hs (cartridgeType_of_mem ht) (ramBankCount_of_mem hm), rfl, rfl, hs.symm,
        Nat.mul_comm _ _, read_ofBytes_zero file⟩
    · obtain ⟨kind, hkind⟩ := cartridgeType_supported ht
      exact load_ramCode_error hr hs hkind (ramBankCount_of_gt hm)
    · exact load_type_error hr hs (cartridgeType_unlisted _ ht)
  · obtain ⟨romBanks, kind, ramBanks, hr, hs, _, rfl⟩ := load_eq_ok h
    have hlen := length_of_romBankCount hr hs
    exact ⟨rfl, read_ofBytes_zero file, read_ofBytes_zero boot, fileHeader_title (by omega) _ _ _, rfl, rfl⟩

end Sys2Proof.Machine
end

section
/-! PROOFS. The device actions (20_memory.md R237): the timer, the PPU and the buttons write their own state, and of IF
they only set bits 2-0 (60_exceptions.md R805). -/

namespace Sys2Proof.Machine

/-- IF goes from `i` to `j` by setting bits among 2-0. -/
def RaisesDeviceBits (i j : Byte) : Prop := ∃ m : Byte, j = i ||| m ∧ m &&& 0xF8 = 0

theorem RaisesDeviceBits.refl (i : Byte) : RaisesDeviceBits i i := ⟨0, by simp, rfl⟩

theorem RaisesDeviceBits.trans {i j k : Byte} (h1 : RaisesDeviceBits i j) (h2 : RaisesDeviceBits j k) :
    RaisesDeviceBits i k := by
  obtain ⟨m, rfl, hm⟩ := h1
  obtain ⟨n, rfl, hn⟩ := h2
  refine ⟨m ||| n, BitVec.or_assoc _ _ _, ?_⟩
  rw [BitVec.and_comm, BitVec.and_or_distrib_left, BitVec.and_comm _ m, hm, BitVec.and_comm _ n, hn]
  rfl

/-- Raising a source of 0 to 2, or not, sets bits among 2-0 (R805). -/
theorem raiseIf_raises (s : State) (b : Bool) {k : Nat} (hk : k ≤ 2) :
    RaisesDeviceBits s.iflag (s.raiseIf b k).iflag := by
  cases b with
  | false => exact .refl _
  | true => exact ⟨bitMask k, rfl, by interval_cases k <;> decide⟩

theorem timerCycle_raises (s : State) : RaisesDeviceBits s.iflag (timerCycle s).iflag :=
  raiseIf_raises (s.setTimer s.timer.cycle) _ (by decide)

theorem timerStep_raises (n : Nat) (s : State) : RaisesDeviceBits s.iflag (timerStep n s).iflag := by
  induction n generalizing s with
  | zero => exact .refl _
  | succ n ih => exact (timerCycle_raises s).trans (ih (timerCycle s))

theorem ppuStep_raises (s : State) : RaisesDeviceBits s.iflag (ppuStep s).iflag :=
  (raiseIf_raises (s.setPpu (ppuAfter s.vram s.ppu)) s.ppu.entersVblank (by decide)).trans (raiseIf_raises _ _ (by decide))

/-- Settles O17: each action writes its own device and IF alone. -/
theorem deviceActionsLeaveCpuAlone : Obligations.DeviceActionsLeaveCpuAlone := by
  unfold Obligations.DeviceActionsLeaveCpuAlone
  intro s t a ha h
  cases a with
  | cpu => exact absurd rfl ha
  | timer n =>
    cases h
    have raises := timerStep_raises n s
    rw [timerStep_eq]
    exact ⟨rfl, rfl, rfl, rfl, rfl, rfl, rfl, rfl, rfl, rfl, raises, fun _ _ => ⟨rfl, rfl⟩, nofun, nofun⟩
  | ppu =>
    cases h
    have raises := ppuStep_raises s
    rw [ppuStep_eq]
    exact ⟨rfl, rfl, rfl, rfl, rfl, rfl, rfl, rfl, rfl, rfl, raises, nofun, fun _ => ⟨rfl, rfl⟩, nofun⟩
  | input e =>
    cases h
    exact ⟨rfl, rfl, rfl, rfl, rfl, rfl, rfl, rfl, rfl, rfl, RaisesDeviceBits.refl _, nofun, nofun, fun _ _ => ⟨rfl, rfl, rfl⟩⟩

end Sys2Proof.Machine
end

section
/-! PROOFS. The bus (20_memory.md R200 to R211): unlisted addresses, the boot-ROM overlay, stores in RAM, and what a store
to any other address leaves readable as before. -/

namespace Sys2Proof.Machine

/-! ## Unlisted addresses (R203) -/

/-- No register stands at the serial, audio and unlisted addresses of 0xFF00-0xFF7F. -/
theorem ioRegAt_eq_none {n : Nat}
    (h : (0xFF01 ≤ n ∧ n ≤ 0xFF03) ∨ (0xFF08 ≤ n ∧ n ≤ 0xFF0E) ∨ (0xFF10 ≤ n ∧ n ≤ 0xFF3F) ∨
      (0xFF4C ≤ n ∧ n ≤ 0xFF4F) ∨ (0xFF51 ≤ n ∧ n ≤ 0xFF7F)) : ioRegAt n = none := by
  unfold ioRegAt
  split
  case h_20 => rfl
  all_goals omega

/-- Settles O22: the addresses below 0xFF00 are routed nowhere, the others hold no register. -/
theorem unlistedAddresses : Obligations.UnlistedAddresses := by
  unfold Obligations.UnlistedAddresses
  intro s a v h
  rcases h with ⟨h1, h2⟩ | h
  · exact ⟨busRead_unlisted s h1 (by omega), busWrite_unlisted s v h1 (by omega)⟩
  · exact ⟨busRead_noReg s (by omega) (by omega) (ioRegAt_eq_none h),
      busWrite_noReg s v (by omega) (by omega) (ioRegAt_eq_none h)⟩

/-! ## The boot-ROM overlay (R210, R211) -/

section
variable {s : State} {a : Word} (v : Byte)

theorem busRead_overlay (hm : s.bootMode = true) (h : a.toNat < 0x100) : busRead s a = .ok (s.bootRom.read a.toNat) := by
  rw [busRead, hm, route_bootRom h]

theorem busWrite_overlay (hm : s.bootMode = true) (h : a.toNat < 0x100) : busWrite s a v = .error ⟨.bootRomWrite, a⟩ := by
  rw [busWrite, hm, route_bootRom h]

end

/-- Settles O23: the overlay is there in boot mode alone; every other cartridge address is the mapper's. -/
theorem bootRomOverlay : Obligations.BootRomOverlay := by
  unfold Obligations.BootRomOverlay
  intro s a v
  refine ⟨fun hm h => ⟨busRead_overlay hm h, busWrite_overlay v hm h⟩, fun hm h => ?_, fun h => ?_,
    busWrite_io s v (r := .boot) rfl, busRead_io s (r := .boot) rfl⟩
  · have window : (s.bootMode = false ∨ 0x100 ≤ a.toNat) ∧ a.toNat < 0x8000 := ⟨.inl hm, by omega⟩
    exact ⟨busRead_mapper s (.inl window), busWrite_mapper s v (.inl window)⟩
  · have window := h.imp_left fun h => (⟨.inr h.1, h.2⟩ : (s.bootMode = false ∨ 0x100 ≤ a.toNat) ∧ a.toNat < 0x8000)
    exact ⟨busRead_mapper s window, busWrite_mapper s v window⟩

/-! ## Stores in RAM (R110 to R112, R202) -/

/-- From `s` to `t`, the byte `v` has been stored at the RAM address `a`. -/
structure StoresRam (s t : State) (a : Word) (v : Byte) : Prop where
  reads : busRead t a = .ok v
  others : ∀ b, b ≠ a → busRead t b = busRead s b
  rest : t = { s with wram := t.wram, hram := t.hram, vram := t.vram }

section
variable {s t : State} {a b : Word} (v : Byte)

/-- Two addresses of a window that starts at `base` have different offsets in it. -/
theorem offset_ne {base : Nat} (hb : base ≤ b.toNat) (ha : base ≤ a.toNat) (h : b ≠ a) :
    b.toNat - base ≠ a.toNat - base := by
  have := BitVec.toNat_ne_iff_ne.mpr h
  omega

theorem storesRam_vram (hi : s.Inv) (h : 0x8000 ≤ a.toNat) (h2 : a.toNat < 0xA000) :
    StoresRam s (s.setVram (s.vram.write (a.toNat - 0x8000) v)) a v where
  reads := (busRead_vram _ h h2).trans (congrArg _ (Memory.read_write_self hi.vram.1 _ v))
  others b hb := busRead_ram_congr b rfl (fun _ _ => rfl)
    (fun h3 _ => Memory.read_write_ne hi.vram.1 (offset_ne h3 h hb) v) (fun _ _ => rfl)
  rest := rfl

theorem storesRam_wram (hi : s.Inv) (h : 0xC000 ≤ a.toNat) (h2 : a.toNat < 0xE000) :
    StoresRam s (s.setWram (s.wram.write (a.toNat - 0xC000) v)) a v where
  reads := (busRead_wram _ h h2).trans (congrArg _ (Memory.read_write_self hi.wram.1 _ v))
  others b hb := busRead_ram_congr b rfl (fun h3 _ => Memory.read_write_ne hi.wram.1 (offset_ne h3 h hb) v)
    (fun _ _ => rfl) (fun _ _ => rfl)
  rest := rfl

theorem storesRam_hram (hi : s.Inv) (h : 0xFF80 ≤ a.toNat) (h2 : a.toNat < 0xFFFF) :
    StoresRam s (s.setHram (s.hram.write (a.toNat - 0xFF80) v)) a v where
  reads := (busRead_hram _ h h2).trans (congrArg _ (Memory.read_write_self hi.hram.1 _ v))
  others b hb := busRead_ram_congr b rfl (fun _ _ => rfl) (fun _ _ => rfl)
    (fun h3 _ => Memory.read_write_ne hi.hram.1 (offset_ne h3 h hb) v)
  rest := rfl

/-- EVERY STORE IN RAM is accepted, reads back and changes no other read. -/
theorem busWrite_ram (hi : s.Inv) (ha : RamAddress a) : ∃ t, busWrite s a v = .ok t ∧ StoresRam s t a v := by
  rcases ha with ⟨h, h2⟩ | ⟨h, h2⟩ | ⟨h, h2⟩
  · exact ⟨_, busWrite_vram s v h h2, storesRam_vram v hi h h2⟩
  · exact ⟨_, busWrite_wram s v h h2, storesRam_wram v hi h h2⟩
  · exact ⟨_, busWrite_hram s v h h2, storesRam_hram v hi h h2⟩

theorem storesRam_of_busWrite {v : Byte} (hi : s.Inv) (ha : RamAddress a) (hw : busWrite s a v = .ok t) :
    StoresRam s t a v := by
  obtain ⟨u, hu, store⟩ := busWrite_ram v hi ha
  rw [hw] at hu
  cases hu
  exact store

end

/-- Settles O20: window by window, the store is the one of that window's array. -/
theorem ramStoreReadsBack : Obligations.RamStoreReadsBack := by
  unfold Obligations.RamStoreReadsBack
  intro s a v hi ha
  rcases ha with ⟨h, h2⟩ | ⟨h, h2⟩ | ⟨h, h2⟩
  · obtain ⟨reads, others, rest⟩ := storesRam_vram v hi h h2
    exact ⟨_, busWrite_vram s v h h2, reads, others, rest,
      fun _ => ⟨busRead_vram s h h2, rfl, Memory.read_write_self hi.vram.1 _ _⟩, by omega, by omega⟩
  · obtain ⟨reads, others, rest⟩ := storesRam_wram v hi h h2
    exact ⟨_, busWrite_wram s v h h2, reads, others, rest, by omega,
      fun _ _ => ⟨busRead_wram s h h2, rfl, Memory.read_write_self hi.wram.1 _ _⟩, by omega⟩
  · obtain ⟨reads, others, rest⟩ := storesRam_hram v hi h h2
    exact ⟨_, busWrite_hram s v h h2, reads, others, rest, by omega, by omega,
      fun _ => ⟨busRead_hram s h h2, rfl, Memory.read_write_self hi.hram.1 _ _⟩⟩

theorem add_one_ne_self (a : Word) : a + 1 ≠ a := fun h => absurd (add_eq_left.mp h) (by decide)

/-- Settles O21: the second byte's store leaves the first, since the addresses differ. -/
theorem wordStoreIsLittleEndian : Obligations.WordStoreIsLittleEndian := by
  unfold Obligations.WordStoreIsLittleEndian
  intro s a v hi ha ha1
  obtain ⟨u, hu, low⟩ := busWrite_ram (loByte v) hi ha
  obtain ⟨t, ht, high⟩ := busWrite_ram (hiByte v) (busWrite_inv hi hu) ha1
  have readLow : busRead t a = .ok (loByte v) := (high.others a (add_one_ne_self a).symm).trans low.reads
  refine ⟨t, fun k => writeWord_ok hu ht, loByte_eq v ▸ readLow, hiByte_eq v ▸ high.reads, fun k => ?_⟩
  rw [readWord_ok readLow high.reads, joinBytes_hiByte_loByte]

end Sys2Proof.Machine
end

section
/-! PROOFS. Stores to addresses that are not RAM (20_memory.md R202, R208): what every other address reads. -/

namespace Sys2Proof.Machine

/-! ## What a read depends on -/

/-- Boot mode matters below 0x0100 alone (R210). -/
theorem route_above_overlay {a : Word} (h : 0x100 ≤ a.toNat) (m n : Bool) : route m a = route n a := by
  have below : ∀ m : Bool, ¬ (a.toNat < 0x100 ∧ m = true) := fun _ => by omega
  rw [route, route, if_neg (below m), if_neg (below n)]

/-- A read at `a` depends on boot mode below 0x0100, and on what its own target holds. -/
theorem busRead_local {s t : State} {a : Word} (mode : a.toNat < 0x100 → t.bootMode = s.bootMode)
    (bootRom : t.bootRom = s.bootRom)
    (mapper : a.toNat < 0x8000 ∨ 0xA000 ≤ a.toNat ∧ a.toNat < 0xC000 → mapperRead t.cart a = mapperRead s.cart a)
    (vram : t.vram = s.vram) (wram : t.wram = s.wram) (hram : t.hram = s.hram)
    (io : ∀ r, ioRegAt a.toNat = some r → ioRead t r = ioRead s r) (ie : a.toNat = 0xFFFF → t.ie = s.ie) :
    busRead t a = busRead s a := by
  have hroute : route t.bootMode a = route s.bootMode a := by
    by_cases h : a.toNat < 0x100
    · rw [mode h]
    · exact route_above_overlay (Nat.le_of_not_lt h) _ _
  unfold busRead
  rw [hroute]
  rcases route_cases s.bootMode a with ⟨_, _, hr⟩ | ⟨_, h1, hr⟩ | ⟨_, _, hr⟩ | ⟨h1, h2, hr⟩ | ⟨_, _, hr⟩ | ⟨_, _, hr⟩ |
    ⟨r, _, _, h1, hr⟩ | ⟨_, _, hr⟩ | ⟨h1, hr⟩ <;> rw [hr] <;> dsimp only
  · rw [bootRom]
  · exact mapper (.inl h1)
  · rw [vram]
  · exact mapper (.inr ⟨h1, h2⟩)
  · rw [wram]
  · rw [io r h1]
  · rw [hram]
  · rw [ie h1]

/-! ## Registers -/

theorem ioWrite_boot (s : State) (v : Byte) : ioWrite s .boot v = if v = 0x01 then s.setBootMode false else s := rfl

/-- A register's write changes what no other register reads, but for STAT after LYC (R837). -/
theorem ioRead_ioWrite_ne (s : State) (v : Byte) {r x : IoReg} (hne : x ≠ r) (hstat : ¬ (r = .lyc ∧ x = .stat)) :
    ioRead (ioWrite s r v) x = ioRead s x := by
  cases r
  case boot =>
    rw [ioWrite_boot]
    split
    · cases x <;> first | rfl | exact absurd rfl hne
    · rfl
  all_goals cases x <;> first | rfl | exact absurd rfl hne | exact absurd ⟨rfl, rfl⟩ hstat

/-- A register's write leaves the memories, the cartridge, the boot ROM and IE alone. -/
theorem ioWrite_eq (s : State) (r : IoReg) (v : Byte) :
    ioWrite s r v = { s with
      bootMode := (ioWrite s r v).bootMode, iflag := (ioWrite s r v).iflag, timer := (ioWrite s r v).timer,
      ppu := (ioWrite s r v).ppu, joypad := (ioWrite s r v).joypad } := by
  cases r
  case boot =>
    rw [ioWrite_boot]
    split <;> rfl
  all_goals rfl

theorem ioWrite_bootMode (s : State) {r : IoReg} (v : Byte) (h : r ≠ .boot) :
    (ioWrite s r v).bootMode = s.bootMode := by
  cases r
  case boot => exact absurd rfl h
  all_goals rfl

theorem busRead_ioWrite_ne (s : State) {r : IoReg} (v : Byte) {b : Word} (hb : ioRegAt b.toNat ≠ some r)
    (hstat : ¬ (r = .lyc ∧ ioRegAt b.toNat = some .stat)) (hboot : ¬ (r = .boot ∧ b.toNat < 0x100)) :
    busRead (ioWrite s r v) b = busRead s b := by
  have frame := ioWrite_eq s r v
  refine busRead_local (fun h => ioWrite_bootMode s v fun hr => hboot ⟨hr, h⟩) (by rw [frame]) (fun _ => by rw [frame])
    (by rw [frame]) (by rw [frame]) (by rw [frame]) (fun x hx => ?_) (fun _ => by rw [frame])
  exact ioRead_ioWrite_ne s v (fun h => hb (h ▸ hx)) fun ⟨h1, h2⟩ => hstat ⟨h1, h2 ▸ hx⟩

/-- An address is fixed by the register that stands there. -/
theorem eq_of_ioRegAt {a b : Word} {r : IoReg} (ha : ioRegAt a.toNat = some r) (hb : ioRegAt b.toNat = some r) : a = b :=
  BitVec.eq_of_toNat_eq (ioRegAt_inj ha hb)

/-! ## The mapper -/

/-- A store through the mapper changes what only its windows read. -/
theorem busRead_setCart {s : State} {c : Cartridge} {b : Word}
    (h : b.toNat < 0x8000 ∨ 0xA000 ≤ b.toNat ∧ b.toNat < 0xC000 → mapperRead c b = mapperRead s.cart b) :
    busRead (s.setCart c) b = busRead s b :=
  busRead_local (fun _ => rfl) rfl h rfl rfl rfl (fun r _ => by cases r <;> rfl) (fun _ => rfl)

/-- A read of the ROM windows reads the ROM at the mapper's offset (R213, R216, R217, R220). -/
theorem mapperRead_rom (c : Cartridge) {a : Word} (h : a.toNat < 0x8000) :
    mapperRead c a = c.romAt (c.romOffset a.toNat) a := by
  unfold mapperRead Cartridge.romOffset
  cases c.mapper with
  | noMbc => exact noMbcRead_rom c h
  | mbc1 r =>
    by_cases h0 : a.toNat < 0x4000
    · simp only [if_pos h0, mbc1Read_rom0 c r h0]
    · simp only [if_neg h0, mbc1Read_rom1 c r (Nat.le_of_not_lt h0) h]
  | mbc3 r =>
    by_cases h0 : a.toNat < 0x4000
    · simp only [if_pos h0, mbc3Read_rom0 c r h0]
    · simp only [if_neg h0, mbc3Read_rom1 c r (Nat.le_of_not_lt h0) h]

/-- A store to 0xA000-0xBFFF writes ERAM or the live RTC, neither of which a ROM offset depends on. -/
theorem romOffset_of_ram_write {c d : Cartridge} {a : Word} {v : Byte} (ha : 0xA000 ≤ a.toNat)
    (h : mapperWrite c a v = .ok d) : d.romOffset = c.romOffset := by
  have put : ∀ {off}, c.eramPut off v a = .ok d → d.romOffset = c.romOffset := by
    intro off hp
    unfold Cartridge.eramPut at hp
    split at hp <;> cases hp
    rfl
  unfold mapperWrite at h
  split at h
  case h_1 => exact put (noMbcWrite_eram c v ha ▸ h)
  case h_2 r _ =>
    rw [mbc1Write_ram c r v ha] at h
    split at h
    · exact put h
    · cases h; rfl
  case h_3 r hm =>
    cases he : r.ramEnable with
    | false => rw [mbc3Write_disabled c r v ha he] at h; cases h; rfl
    | true =>
      rw [mbc3Write_enabled c r v ha he] at h
      split at h
      · exact put h
      · split at h <;> cases h
        unfold Cartridge.romOffset
        rw [hm]
        rfl

/-- So such a store leaves what the ROM windows read. -/
theorem mapperRead_rom_of_ram_write {c d : Cartridge} {a b : Word} {v : Byte} (ha : 0xA000 ≤ a.toNat)
    (h : mapperWrite c a v = .ok d) (hb : b.toNat < 0x8000) : mapperRead d b = mapperRead c b := by
  obtain ⟨rom, header, _⟩ := mapperWrite_same h
  rw [mapperRead_rom d hb, mapperRead_rom c hb, romOffset_of_ram_write ha h, Cartridge.romAt, Cartridge.romAt,
    Cartridge.romLen, Cartridge.romLen, rom, header]

/-- A store by way of the mapper. -/
theorem busWrite_mapper_cases {s t : State} {a : Word} {v : Byte}
    (ha : a.toNat < 0x8000 ∨ 0xA000 ≤ a.toNat ∧ a.toNat < 0xC000) (h : busWrite s a v = .ok t) :
    ∃ c, mapperWrite s.cart a v = .ok c ∧ t = s.setCart c := by
  obtain ⟨c, hc, _, ht⟩ | ⟨_, _, _⟩ | ⟨_, _, _⟩ | ⟨_, _, _⟩ | ⟨r, _, _, _, _⟩ | ⟨_, _, _⟩ | ⟨_, _⟩ := busWrite_cases h
  · exact ⟨c, hc, ht⟩
  all_goals omega

/-- Settles O31: a register is read at its own address alone, but for LYC's and 0xFF50's exceptions; the mapper is read
through its windows alone, and its ROM windows do not read what a store to 0xA000-0xBFFF changes. -/
theorem registerStoreFrame : Obligations.RegisterStoreFrame := by
  unfold Obligations.RegisterStoreFrame
  intro s t a b v h hba
  refine ⟨fun ha hram hstat hboot => ?page, fun ha hb1 hb2 => ?rom, fun ha ha2 hb => ?eram⟩
  case page =>
    obtain ⟨_, _, hm, _⟩ | ⟨_, _, _⟩ | ⟨_, _, _⟩ | ⟨_, _, rfl⟩ | ⟨r, hr, _, _, rfl⟩ | ⟨h1, h2, _⟩ | ⟨hie, rfl⟩ :=
      busWrite_cases h
    case inr.inr.inr.inl => rfl
    case inr.inr.inr.inr.inl =>
      refine busRead_ioWrite_ne s v (fun hb => hba (eq_of_ioRegAt hb hr)) ?_ ?_
      · rintro ⟨rfl, hb⟩
        exact hstat ⟨eq_of_ioRegAt hr rfl, eq_of_ioRegAt hb rfl⟩
      · rintro ⟨rfl, hb⟩
        exact hboot ⟨eq_of_ioRegAt hr rfl, hb⟩
    case inr.inr.inr.inr.inr.inl => exact absurd (.inr (.inr ⟨h1, h2⟩)) hram
    case inr.inr.inr.inr.inr.inr =>
      have hb : b.toNat ≠ 0xFFFF := hie ▸ BitVec.toNat_ne_iff_ne.mpr hba
      exact busRead_local (fun _ => rfl) rfl (fun _ => rfl) rfl rfl rfl (fun r _ => by cases r <;> rfl)
        fun h => absurd h hb
    all_goals omega
  case rom =>
    obtain ⟨c, _, rfl⟩ := busWrite_mapper_cases (.inl ha) h
    exact busRead_setCart (by omega)
  case eram =>
    obtain ⟨c, hc, rfl⟩ := busWrite_mapper_cases (.inr ⟨ha, ha2⟩) h
    exact busRead_setCart fun _ => mapperRead_rom_of_ram_write ha hc (by omega)

end Sys2Proof.Machine
end

section
/-! PROOFS. The memory frame (20_memory.md R202, R208): an instruction whose stores go to RAM changes what its own store
addresses read, and no other read. -/

namespace Sys2Proof.Machine

/-! ## The store addresses by family -/

section
variable (s : State) (r : Reg8) (q : StackPair) (k : Fin 8) (w : Word)

@[simp] theorem storeAddresses_ldAtHLReg : storeAddresses (Instr.ldAtHLReg r) s = [s.regs.hl] := by cases r <;> rfl
@[simp] theorem storeAddresses_push :
    storeAddresses (Instr.push q) s = [s.regs.sp - 2, s.regs.sp - 2 + 1] := by cases q <;> rfl
@[simp] theorem storeAddresses_rst :
    storeAddresses (Instr.rst k) s = [s.regs.sp - 2, s.regs.sp - 2 + 1] := by fin_cases k <;> rfl
@[simp] theorem storeAddresses_callCond (cc : Cond) : storeAddresses (Instr.callCond w cc) s =
    if s.regs.holds cc then [s.regs.sp - 2, s.regs.sp - 2 + 1] else [] := by cases cc <;> rfl
@[simp] theorem storeAddresses_inc_atHL : storeAddresses (Instr.inc .atHL) s = [s.regs.hl] := rfl
@[simp] theorem storeAddresses_dec_atHL : storeAddresses (Instr.dec .atHL) s = [s.regs.hl] := rfl
@[simp] theorem storeAddresses_rot_atHL (op : RotOp) : storeAddresses (Instr.rot op .atHL) s = [s.regs.hl] := by
  cases op <;> rfl
@[simp] theorem storeAddresses_res_atHL : storeAddresses (Instr.res k .atHL) s = [s.regs.hl] := by fin_cases k <;> rfl
@[simp] theorem storeAddresses_set_atHL : storeAddresses (Instr.set k .atHL) s = [s.regs.hl] := by fin_cases k <;> rfl

end

/-! ## Reading alike outside a list of addresses -/

/-- Every address outside `as` reads in `t` as it does in `s`. -/
def ReadsAlike (as : List Word) (s t : State) : Prop := ∀ b, b ∉ as → busRead t b = busRead s b

/-- Whatever next state `o` answers, it reads alike outside `as`. -/
def AnswersAlike (as : List Word) (s : State) (o : Out) : Prop := ∀ t, o = .next t → ReadsAlike as s t

section
variable {as : List Word} {s t u : State}

theorem ReadsAlike.refl : ReadsAlike as s s := fun _ _ => rfl

theorem ReadsAlike.setRegs (h : ReadsAlike as s t) (r : Regs) : ReadsAlike as s (t.setRegs r) :=
  fun b hb => (busRead_setRegs t r b).trans (h b hb)

theorem ReadsAlike.setIme (h : ReadsAlike as s t) (b : Bool) : ReadsAlike as s (t.setIme b) :=
  fun a ha => (busRead_setIme t b a).trans (h a ha)

/-- A store in RAM at an address of `as` leaves every address outside `as`. -/
theorem ReadsAlike.store {a : Word} {v : Byte} (h : ReadsAlike as s t) (hi : t.Inv) (ha : a ∈ as) (hram : RamAddress a)
    (hw : busWrite t a v = .ok u) : ReadsAlike as s u :=
  fun b hb => ((storesRam_of_busWrite hi hram hw).others b fun hba => hb (hba ▸ ha)).trans (h b hb)

/-! ## The shared operations -/

theorem alike_next (h : ReadsAlike as s u) : AnswersAlike as s (.next u) := by
  intro t ht
  cases ht
  exact h

/-- A write of the register file ends an instruction with every read as before. -/
theorem alike_regs (r : Regs) : AnswersAlike as s (.next (s.setRegs r)) := alike_next (ReadsAlike.refl.setRegs r)

theorem alike_raiseFault (h : ReadsAlike as s u) (e : Trap) : AnswersAlike as s (raiseFault u e) :=
  alike_next fun b hb => (busRead_takeFault u e b).trans (h b hb)

theorem alike_readByte {a : Word} {k : Byte → Out} (hk : ∀ v, AnswersAlike as s (k v)) :
    AnswersAlike as s (readByte s a k) := by
  unfold readByte
  split
  · exact hk _
  · exact alike_raiseFault .refl _

theorem alike_pop16 {k : Word → State → Out} (hk : ∀ v, AnswersAlike as s (k v (s.setSp (s.regs.sp + 2)))) :
    AnswersAlike as s (pop16 s k) :=
  alike_readByte fun _ => alike_readByte fun _ => hk _

theorem alike_readOperand8 {o : Operand8} {k : Byte → Out} (hk : ∀ v, AnswersAlike as s (k v)) :
    AnswersAlike as s (readOperand8 o s k) := by
  cases o with
  | reg r => exact hk _
  | atHL => exact alike_readByte hk

variable (hram : ∀ a ∈ as, RamAddress a)
include hram

theorem alike_writeByte {a : Word} {v : Byte} {k : State → Out} (h : ReadsAlike as s u) (hi : u.Inv) (ha : a ∈ as)
    (hk : ∀ u', u'.Inv → ReadsAlike as s u' → AnswersAlike as s (k u')) : AnswersAlike as s (writeByte u a v k) := by
  unfold writeByte
  split
  case h_1 hw => exact hk _ (busWrite_inv hi hw) (h.store hi ha (hram a ha) hw)
  case h_2 => exact alike_raiseFault h _

theorem alike_writeWord {a v : Word} {k : State → Out} (h : ReadsAlike as s u) (hi : u.Inv) (ha : a ∈ as)
    (ha1 : a + 1 ∈ as) (hk : ∀ u', ReadsAlike as s u' → AnswersAlike as s (k u')) :
    AnswersAlike as s (writeWord u a v k) :=
  alike_writeByte hram h hi ha fun _ hi1 h1 => alike_writeByte hram h1 hi1 ha1 fun u' _ => hk u'

theorem alike_push16 {v : Word} {k : State → Out} (hi : s.Inv) (ha : s.regs.sp - 2 ∈ as) (ha1 : s.regs.sp - 2 + 1 ∈ as)
    (hk : ∀ u, ReadsAlike as s u → AnswersAlike as s (k u)) : AnswersAlike as s (push16 s v k) :=
  alike_writeWord hram (ReadsAlike.refl.setRegs _) ((State.Evolves.refl.setSp _).inv hi) ha ha1 hk

theorem alike_writeOperand8 {o : Operand8} {v : Byte} {k : State → Out} (hi : s.Inv) (ha : o = .atHL → s.regs.hl ∈ as)
    (hk : ∀ u, ReadsAlike as s u → AnswersAlike as s (k u)) : AnswersAlike as s (writeOperand8 o v s k) := by
  cases o with
  | reg r => exact hk _ (ReadsAlike.refl.setRegs _)
  | atHL => exact alike_writeByte hram .refl hi (ha rfl) fun u _ => hk u

/-! ## The meanings -/

theorem alike_storeTo {a : Word} (hi : s.Inv) (ha : a ∈ as) (v : Byte) : AnswersAlike as s (storeTo a v s) :=
  alike_writeByte hram .refl hi ha fun _ _ => alike_next

theorem alike_storeStep (hi : s.Inv) (ha : s.regs.hl ∈ as) (delta : Word) : AnswersAlike as s (storeStep delta s) :=
  alike_writeByte hram .refl hi ha fun _ _ hu => alike_next (hu.setRegs _)

theorem alike_writeBack {o : Operand8} (hi : s.Inv) (ha : o = .atHL → s.regs.hl ∈ as) (r : AluResult) :
    AnswersAlike as s (writeBack o r s) :=
  alike_writeOperand8 hram hi ha fun _ hu => alike_next (hu.setRegs _)

theorem alike_call (hi : s.Inv) (ha : s.regs.sp - 2 ∈ as) (ha1 : s.regs.sp - 2 + 1 ∈ as) (a : Word) :
    AnswersAlike as s (call a s) :=
  alike_push16 hram hi ha ha1 fun _ hu => alike_next (hu.setRegs _)

omit hram

theorem alike_loadFrom (dst : Reg8) (a : Word) : AnswersAlike as s (loadFrom dst a s) :=
  alike_readByte fun _ => alike_regs _

theorem alike_loadStep (delta : Word) : AnswersAlike as s (loadStep delta s) := alike_readByte fun _ => alike_regs _

theorem alike_applyAlu (op : AluOp) (v : Byte) : AnswersAlike as s (.next (applyAlu op v s)) := by
  unfold applyAlu
  dsimp only
  split <;> exact alike_regs _

theorem alike_jumpIf (cc : Cond) (a : Word) : AnswersAlike as s (jumpIf cc a s) := by
  unfold jumpIf
  split
  · exact alike_regs _
  · exact alike_next .refl

theorem alike_ret : AnswersAlike as s (ret s) := alike_pop16 fun _ => alike_regs _

theorem alike_returnFromInterrupt : AnswersAlike as s (returnFromInterrupt s) :=
  alike_pop16 fun v => alike_next (ReadsAlike.setIme (t := (s.setSp _).setPc v) (ReadsAlike.refl.setRegs _) true)

end

/-- EVERY INSTRUCTION WHOSE STORES GO TO RAM leaves every other address as it read. -/
theorem exec_answersAlike (i : Instr) : ∀ s : State, s.Inv → (∀ a ∈ storeAddresses i s, RamAddress a) →
    AnswersAlike (storeAddresses i s) s (exec i s) := by
  induction i using Instr.by_family <;> intro s hi hram
  case ldRegReg => rw [exec_ldRegReg]; exact alike_regs _
  case ldRegImm => rw [exec_ldRegImm]; exact alike_regs _
  case ldRegAtHL => rw [exec_ldRegAtHL]; exact alike_loadFrom _ _
  case ldAtHLReg => rw [exec_ldAtHLReg]; exact alike_storeTo hram hi (by simp) _
  case ldPairImm => rw [exec_ldPairImm]; exact alike_regs _
  case incPair => rw [exec_incPair]; exact alike_regs _
  case decPair => rw [exec_decPair]; exact alike_regs _
  case addHLPair => rw [exec_addHLPair]; exact alike_regs _
  case push => rw [exec_push]; exact alike_push16 hram hi (by simp) (by simp) fun _ => alike_next
  case pop => rw [exec_pop]; exact alike_pop16 fun _ => alike_regs _
  case alu => rw [exec_alu]; exact alike_readOperand8 fun _ => alike_applyAlu _ _
  case aluImm => rw [exec_aluImm]; exact alike_applyAlu _ _
  case inc => rw [exec_inc]; exact alike_readOperand8 fun _ => alike_writeBack hram hi (by rintro rfl; simp) _
  case dec => rw [exec_dec]; exact alike_readOperand8 fun _ => alike_writeBack hram hi (by rintro rfl; simp) _
  case rot =>
    rw [exec_rot]
    exact alike_readOperand8 fun _ => alike_writeOperand8 hram hi (by rintro rfl; simp) fun _ hu =>
      alike_next (hu.setRegs _)
  case bit => rw [exec_bit]; exact alike_readOperand8 fun _ => alike_regs _
  case res =>
    rw [exec_res]
    exact alike_readOperand8 fun _ => alike_writeOperand8 hram hi (by rintro rfl; simp) fun _ => alike_next
  case set =>
    rw [exec_set]
    exact alike_readOperand8 fun _ => alike_writeOperand8 hram hi (by rintro rfl; simp) fun _ => alike_next
  case jpCond => rw [exec_jpCond]; exact alike_jumpIf _ _
  case jrCond => rw [exec_jrCond]; exact alike_jumpIf _ _
  case callCond =>
    rw [exec_callCond, callIf]
    split
    case isTrue hc => exact alike_call hram hi (by simp [hc]) (by simp [hc]) _
    case isFalse => exact alike_next .refl
  case retCond =>
    rw [exec_retCond, retIf]
    split
    · exact alike_ret
    · exact alike_next .refl
  case rst => rw [exec_rst]; exact alike_call hram hi (by simp) (by simp) _
  case undefinedOp u => cases u <;> exact alike_raiseFault .refl _
  case ld_atA16_SP v =>
    exact alike_writeWord hram .refl hi (.head _) (.tail _ (.head _)) fun _ => alike_next
  case nop | halt | stop => exact alike_next .refl
  case ld_atHL_d8 | ldh_atA8_A | ld_atA16_A | ld_atBC_A | ld_atDE_A | ld_atC_A => exact alike_storeTo hram hi (.head _) _
  case ldh_A_atA8 | ld_A_atA16 | ld_A_atBC | ld_A_atDE | ld_A_atC => exact alike_loadFrom _ _
  case ld_atHLI_A | ld_atHLD_A => exact alike_storeStep hram hi (.head _) _
  case ld_A_atHLI | ld_A_atHLD => exact alike_loadStep _
  case call_a16 => exact alike_call hram hi (.head _) (.tail _ (.head _)) _
  case ret => exact alike_ret
  case reti => exact alike_returnFromInterrupt
  case di | ei => exact alike_next (ReadsAlike.refl.setIme _)
  case jr_r8 | jp_a16 | jp_HL | add_SP_r8 | ld_HL_SPr8 | rlca | rrca | rla | rra | daa | cpl | scf | ccf | ld_SP_HL =>
    exact alike_regs _

/-- Settles O19: the store addresses are the ones of the instruction's meaning, and a store in RAM changes no other read. -/
theorem memoryFrame : Obligations.MemoryFrame := by
  unfold Obligations.MemoryFrame
  intro s t i hi h hram
  exact exec_answersAlike i s hi hram t h

end Sys2Proof.Machine
end

section
/-! PROOFS. Decoding and encoding (30_encoding.md R300 to R312): what each template reads and writes, the two opcode maps
against `encode`, and the undefined opcodes. -/

namespace Sys2Proof

/-! ## Immediates (R308) -/

@[simp] theorem immHi_append_immLo (w : Word) : immHi w ++ immLo w = w := Machine.joinBytes_hiByte_loByte w

@[simp] theorem immLo_append (hi lo : Byte) : immLo (hi ++ lo) = lo := Machine.loByte_joinBytes hi lo

@[simp] theorem immHi_append (hi lo : Byte) : immHi (hi ++ lo) = hi := Machine.hiByte_joinBytes hi lo

/-! ## What a template makes of an operand word -/

/-- The instruction that a template makes with the operand word `w`, of which one operand byte is the low one. -/
def Template.instr (w : Word) : Template → Instr
  | .plain i => i
  | .imm8 f => f (immLo w)
  | .imm16 f => f w
  | .cb => cbInstr (immLo w)

/-- The bytes of the operand word that follow the opcode (R300, R308). -/
def Template.operandBytes (w : Word) : Template → List Byte
  | .plain _ => []
  | .imm8 _ => [immLo w]
  | .imm16 _ => [immLo w, immHi w]
  | .cb => [immLo w]

/-- What the template of its first byte makes of the bytes after it is what is decoded. -/
theorem decode_template (op : Byte) (w : Word) (rest : List Byte) :
    decode (op :: ((template op).operandBytes w ++ rest)) = .ok ((template op).instr w, rest) := by
  cases ht : template op <;> simp [decode, ht, Template.operandBytes, Template.instr]

/-- EVERYTHING THAT DECODES: an opcode and the operand bytes of its template, for some operand word. -/
theorem decode_eq_ok {bytes rest : List Byte} {i : Instr} (h : decode bytes = .ok (i, rest)) :
    ∃ op w, bytes = op :: ((template op).operandBytes w ++ rest) ∧ i = (template op).instr w := by
  unfold decode at h
  split at h
  case h_1 => cases h
  case h_2 op tail =>
    split at h
    case h_1 ht => cases h; exact ⟨op, 0, by simp [ht, Template.operandBytes, Template.instr]⟩
    case h_2 v _ ht => cases h; exact ⟨op, (0 : Byte) ++ v, by simp [ht, Template.operandBytes, Template.instr]⟩
    case h_3 lo hi _ ht => cases h; exact ⟨op, hi ++ lo, by simp [ht, Template.operandBytes, Template.instr]⟩
    case h_4 op2 _ ht => cases h; exact ⟨op, (0 : Byte) ++ op2, by simp [ht, Template.operandBytes, Template.instr]⟩
    case h_5 => cases h

/-! ## The opcode maps against `encode` (R310, R311) -/

/-- The bytes of a row of an opcode map: the row is the high nibble, the column the low one. -/
def rowBytes (hi : Nat) : List Byte := (List.range 16).map fun lo => BitVec.ofNat 8 (16 * hi + lo)

/-- Every byte stands in its own row and column. -/
theorem rowBytes_getElem? (op : Byte) : (rowBytes (op.toNat / 16))[op.toNat % 16]? = some op := by
  simp [rowBytes, Nat.mod_lt, Nat.div_add_mod]

theorem encode_cbRow (hi : Fin 16) : (cbRow hi).map encode = (rowBytes hi).map fun op2 => [0xCB, op2] := by
  fin_cases hi <;> rfl

theorem encode_cbInstr (op2 : Byte) : encode (cbInstr op2) = [0xCB, op2] := by
  have row := congrArg (·[op2.toNat % 16]?) (encode_cbRow ⟨op2.toNat / 16, by omega⟩)
  simpa [cbInstr, cbRow_length, Nat.mod_lt, rowBytes_getElem?] using row

/-- The bytes of the instruction that a template makes with the operand word `w`. -/
def Template.bytes (w : Word) : Template → List Byte
  | .plain i => encode i
  | .imm8 f => encode (f (immLo w))
  | .imm16 f => encode (f w)
  | .cb => [0xCB, immLo w]

theorem Template.encode_instr (t : Template) (w : Word) : encode (t.instr w) = t.bytes w := by
  cases t with
  | cb => exact encode_cbInstr _
  | _ => rfl

theorem Template.bytes_primaryRow (hi : Fin 16) (w : Word) :
    (primaryRow hi).map (Template.bytes w) =
      List.zipWith (fun op t => op :: t.operandBytes w) (rowBytes hi) (primaryRow hi) := by
  fin_cases hi <;> rfl

/-- The encoding of what an opcode's template makes of an operand word: the opcode, then the operand bytes. -/
theorem encode_template (op : Byte) (w : Word) :
    encode ((template op).instr w) = op :: (template op).operandBytes w := by
  have row := congrArg (·[op.toNat % 16]?) (Template.bytes_primaryRow ⟨op.toNat / 16, by omega⟩ w)
  simpa [Template.encode_instr, template, primaryRow_length, Nat.mod_lt, List.getElem?_zipWith, rowBytes_getElem?]
    using row

/-- Settles O2: what decodes is an opcode with its template's operand bytes, and that is what the maps encode. -/
theorem encodeInvertsDecode : Obligations.EncodeInvertsDecode := by
  unfold Obligations.EncodeInvertsDecode
  intro bytes rest i h
  obtain ⟨op, w, rfl, rfl⟩ := decode_eq_ok h
  rw [encode_template, List.cons_append]

/-! ## Decoding an encoded instruction -/

/-- A 16-bit immediate is put together again from its two bytes. -/
theorem decode_imm16 {op : Byte} {f : Word → Instr} (h : template op = .imm16 f) (w : Word) (rest : List Byte) :
    decode (op :: immLo w :: immHi w :: rest) = .ok (f w, rest) := by
  simpa [h, Template.operandBytes, Template.instr] using decode_template op w rest

theorem decode_encode (i : Instr) (rest : List Byte) : decode (encode i ++ rest) = .ok (i, rest) := by
  induction i using Instr.by_family
  case ldRegReg dst src => cases dst <;> cases src <;> rfl
  case ldRegImm dst | ldRegAtHL dst => cases dst <;> rfl
  case ldAtHLReg src => cases src <;> rfl
  case ldPairImm w p => cases p <;> exact decode_imm16 rfl w rest
  case incPair p | decPair p | addHLPair p => cases p <;> rfl
  case push q | pop q => cases q <;> rfl
  case alu op o | rot op o =>
    cases o with
    | reg r => cases op <;> cases r <;> rfl
    | atHL => cases op <;> rfl
  case aluImm op => cases op <;> rfl
  case inc o | dec o =>
    cases o with
    | reg r => cases r <;> rfl
    | atHL => rfl
  case bit k o | res k o | set k o =>
    cases o with
    | reg r => fin_cases k <;> cases r <;> rfl
    | atHL => fin_cases k <;> rfl
  case jpCond w cc | callCond w cc => cases cc <;> exact decode_imm16 rfl w rest
  case jrCond cc | retCond cc => cases cc <;> rfl
  case rst k => fin_cases k <;> rfl
  case undefinedOp u => cases u <;> rfl
  case ld_atA16_SP w | jp_a16 w | call_a16 w | ld_atA16_A w | ld_A_atA16 w => exact decode_imm16 rfl w rest
  all_goals rfl

/-- Settles O1: family by family; only a 16-bit immediate is more than reading the maps. -/
theorem decodeInvertsEncode : Obligations.DecodeInvertsEncode := decode_encode

/-! ## The undefined opcodes (R312) -/

/-- The eleven, in the order of R312. -/
def undefinedOps : List UndefinedOp := [.xD3, .xDB, .xDD, .xE3, .xE4, .xEB, .xEC, .xED, .xF4, .xFC, .xFD]

theorem mem_undefinedOps (u : UndefinedOp) : u ∈ undefinedOps := by cases u <;> decide

theorem undefinedInstrs_eq : undefinedInstrs = undefinedOps.map Instr.undefinedOp := rfl

theorem undefinedBytes_eq : undefinedBytes = undefinedOps.map undefinedByte := rfl

/-- What `WellFormed` refuses: the undefined opcodes alone. -/
theorem not_wellFormed_iff (i : Instr) : ¬ WellFormed i ↔ ∃ u, i = Instr.undefinedOp u := by
  simp [Instr.wellFormed, undefinedInstrs_eq, mem_undefinedOps]

theorem mem_undefinedBytes_iff (op : Byte) : op ∈ undefinedBytes ↔ ∃ u, undefinedByte u = op := by
  simp [undefinedBytes_eq, mem_undefinedOps]

theorem encode_undefinedOp (u : UndefinedOp) : encode (Instr.undefinedOp u) = [undefinedByte u] := by cases u <;> rfl

theorem decode_undefinedByte (u : UndefinedOp) (rest : List Byte) :
    decode (undefinedByte u :: rest) = .ok (Instr.undefinedOp u, rest) := by
  simpa [encode_undefinedOp] using decode_encode (Instr.undefinedOp u) rest

/-- THE ELEVEN ARE THE ONLY ILLEGAL ENCODINGS. -/
theorem not_wellFormed_iff_of_decode {op : Byte} {bytes rest : List Byte} {i : Instr}
    (h : decode (op :: bytes) = .ok (i, rest)) : ¬ WellFormed i ↔ op ∈ undefinedBytes := by
  rw [not_wellFormed_iff, mem_undefinedBytes_iff]
  constructor
  · rintro ⟨u, rfl⟩
    have hb := encodeInvertsDecode _ _ _ h
    rw [encode_undefinedOp] at hb
    cases hb
    exact ⟨u, rfl⟩
  · rintro ⟨u, rfl⟩
    rw [decode_undefinedByte] at h
    cases h
    exact ⟨u, rfl⟩

end Sys2Proof
end

section
/-! PROOFS. The CPU step (30_encoding.md R309): fetch and decode against the bytes at PC, and the fault of the undefined
opcodes (R312). -/

namespace Sys2Proof.Machine

/-! ## Fetching the bytes at PC (R308, R309) -/

/-- `s` with PC past `n` more bytes, mod 2^16. -/
def State.past (s : State) (n : Nat) : State := s.setPc (s.regs.pc + BitVec.ofNat 16 n)

/-- `bytes` are read at PC, PC + 1, … mod 2^16. -/
def State.CodeAtPc (s : State) (bytes : List Byte) : Prop :=
  ∀ (k : Nat) (h : k < bytes.length), busRead s (s.regs.pc + BitVec.ofNat 16 k) = .ok bytes[k]

section
variable {s : State} {v : Byte} {vs : List Byte}

theorem State.past_past (s : State) (m n : Nat) : (s.past m).past n = s.past (m + n) := by
  simp only [State.past, BitVec.ofNat_add, ← BitVec.add_assoc]
  rfl

/-- The first byte is read at PC, and the others from one past it. -/
theorem State.codeAtPc_cons :
    s.CodeAtPc (v :: vs) ↔ busRead s s.regs.pc = .ok v ∧ (s.past 1).CodeAtPc vs := by
  have first : s.regs.pc + BitVec.ofNat 16 0 = s.regs.pc := BitVec.add_zero _
  have shift (k : Nat) : busRead (s.past 1) ((s.past 1).regs.pc + BitVec.ofNat 16 k) =
      busRead s (s.regs.pc + BitVec.ofNat 16 (k + 1)) := by
    rw [Nat.add_comm k 1, BitVec.ofNat_add, ← BitVec.add_assoc]
    exact busRead_setRegs _ _ _
  constructor
  · intro h
    exact ⟨first ▸ h 0 (Nat.succ_pos _), fun k hk => (shift k).trans (h (k + 1) (Nat.succ_lt_succ hk))⟩
  · rintro ⟨head, tail⟩ k hk
    cases k with
    | zero => exact first.symm ▸ head
    | succ k => exact (shift k).symm.trans (tail k (Nat.lt_of_succ_lt_succ hk))

theorem fetchByte_code {k : Byte → State → Out} (h : s.CodeAtPc (v :: vs)) : fetchByte s k = k v (s.past 1) :=
  fetchByte_ok (State.codeAtPc_cons.mp h).1

/-- The instruction that the opcode and the operand bytes at PC make is the one that runs, with PC past them. -/
theorem fetchExecute_template {op : Byte} {w : Word} (h : s.CodeAtPc (op :: (template op).operandBytes w)) :
    fetchExecute s = exec ((template op).instr w) (s.past (op :: (template op).operandBytes w).length) := by
  obtain ⟨-, operand⟩ := State.codeAtPc_cons.mp h
  rw [fetchExecute, fetchByte_code h]
  generalize template op = t at operand ⊢
  cases t with
  | plain i => rfl
  | imm8 | cb =>
    dsimp only
    rw [fetchByte_code operand, State.past_past]
    rfl
  | imm16 f =>
    obtain ⟨-, operandHi⟩ := State.codeAtPc_cons.mp operand
    dsimp only
    rw [fetchByte_code operand, fetchByte_code operandHi, State.past_past, State.past_past]
    simp [joinBytes, Template.instr, Template.operandBytes]

/-- What the bytes at PC decode to is what runs, with PC past them. -/
theorem fetchExecute_of_decode {bytes : List Byte} {i : Instr} (hd : decode bytes = .ok (i, []))
    (h : s.CodeAtPc bytes) : fetchExecute s = exec i (s.past bytes.length) := by
  obtain ⟨op, w, rfl, rfl⟩ := decode_eq_ok hd
  rw [List.append_nil] at h ⊢
  exact fetchExecute_template h

end

/-! ## The step (R106, R309) -/

section
variable {s : State}

theorem historyAppend_eq (s : State) : s.historyAppend = s.setHistory (historyAfter s) := by
  unfold State.historyAppend historyAfter
  congr 1
  rw [List.length_append, List.length_singleton, Config.histCap]
  split
  · rw [show s.history.length + 1 - 5 = 0 by omega, List.drop_zero]
  · rw [show s.history.length + 1 - 5 = s.history.length - 4 by omega]

theorem interruptTaken_eq_false : s.interruptTaken = false ↔ s.ime = false ∨ s.ie &&& s.iflag &&& 0x1F = 0 := by
  rw [State.interruptTaken, Bool.and_eq_false_iff, decide_eq_false_iff_not, not_not, State.pending]

theorem step_of_cpuNext (h : s.CpuNext) (hi : s.interruptTaken = false) : step s = fetchExecute s.historyAppend := by
  simp [step, driverStep, cpuStep, h.running, h.queue, h.driver, hi]

/-- A step runs what the bytes at PC decode to. -/
theorem step_of_decode {bytes : List Byte} {i : Instr} (hs : s.CpuNext) (hi : s.interruptTaken = false)
    (hd : decode bytes = .ok (i, [])) (h : s.CodeAtPc bytes) :
    step s = exec i ((s.setHistory (historyAfter s)).past bytes.length) := by
  have h' : (s.setHistory (historyAfter s)).CodeAtPc bytes := fun k hk => (busRead_setHistory _ _ _).trans (h k hk)
  rw [step_of_cpuNext hs hi, historyAppend_eq, fetchExecute_of_decode hd h']

end

/-- Settles O5: what the bytes at PC decode to is an opcode with its operand bytes, which are fetched one by one. -/
theorem stepRunsDecodedInstruction : Obligations.StepRunsDecodedInstruction := by
  unfold Obligations.StepRunsDecodedInstruction
  intro s i bytes hs hi hd h
  exact step_of_decode hs (interruptTaken_eq_false.mpr hi) hd h

/-! ## The undefined opcodes (R312) -/

theorem exec_undefinedOp (s : State) (u : UndefinedOp) :
    exec (Instr.undefinedOp u) s = undefinedOpcode (undefinedByte u) s := by cases u <;> rfl

/-- Settles O4: an undefined opcode is decoded from its byte alone, and its meaning is the fault. -/
theorem undefinedOpcodesFault : Obligations.UndefinedOpcodesFault := by
  unfold Obligations.UndefinedOpcodesFault
  refine ⟨fun s op hs hi hr hop => ?_, exec_undefinedOp, fun _ _ _ _ => not_wellFormed_iff_of_decode⟩
  obtain ⟨u, rfl⟩ := (mem_undefinedBytes_iff op).mp hop
  have code : s.CodeAtPc [undefinedByte u] := State.codeAtPc_cons.mpr ⟨hr, nofun⟩
  rw [step_of_decode hs hi (decode_undefinedByte u []) code, exec_undefinedOp]
  rfl

end Sys2Proof.Machine
end

section
/-! PROOFS. The 8-bit loads (40_load8.md R400 to R416): what the shared loads and stores answer where the bus accepts the
byte, and every row as one of them. -/

namespace Sys2Proof.Machine

section
variable {s t : State} {a : Word} {v : Byte} {dst : Reg8}

/-! ## The shared loads and stores -/

/-- Writing HL writes H and L alone (R100). -/
theorem State.setPair_hl_record (s : State) (w : Word) :
    s.setPair .hl w = { s with regs := { s.regs with h := (w >>> 8).setWidth 8, l := w.setWidth 8 } } := by
  rw [← hiByte_eq, ← loByte_eq]
  rfl

theorem gives_setReg8 (s : State) (dst : Reg8) (v : Byte) :
    Gives (.next (s.setReg8 dst v)) fun t => WritesReg s t dst v s.regs.f := ⟨_, rfl, setReg8_writesReg s dst v⟩

theorem loadFrom_ok (h : busRead s a = .ok v) : loadFrom dst a s = .next (s.setReg8 dst v) := readByte_ok h

theorem storeTo_ok (h : busWrite s a v = .ok t) : storeTo a v s = .next t := writeByte_ok h

theorem loadStep_ok (delta : Word) (h : busRead s s.regs.hl = .ok v) :
    loadStep delta s = .next { s with regs := { s.regs with
      a := v
      h := ((s.regs.hl + delta) >>> 8).setWidth 8
      l := (s.regs.hl + delta).setWidth 8 } } := by
  rw [loadStep, readByte_ok h, State.setPair_hl_record]
  rfl

/-- The store leaves the registers, so HL steps from where it was. -/
theorem storeStep_ok (delta : Word) (h : busWrite s s.regs.hl s.regs.a = .ok t) :
    storeStep delta s = .next { t with regs := { s.regs with
      h := ((s.regs.hl + delta) >>> 8).setWidth 8
      l := (s.regs.hl + delta).setWidth 8 } } := by
  rw [storeStep, writeByte_ok h, State.setPair_hl_record, (busWrite_frame h).regs]

end

/-! ## The rows -/

/-- Settles O39: both forms write the destination register of the unchanged state. -/
theorem loadRegister : Obligations.LoadRegister := by
  unfold Obligations.LoadRegister
  intro s dst src v
  rw [exec_ldRegReg, exec_ldRegImm]
  exact ⟨gives_setReg8 s dst _, gives_setReg8 s dst v⟩

/-- Settles O40: each row is `loadFrom` at its address, or `loadStep` by 1 or -1. -/
theorem loadFromMemory : Obligations.LoadFromMemory := by
  unfold Obligations.LoadFromMemory
  intro s v n a
  refine ⟨fun h => ⟨fun dst => ?_, loadStep_ok 1 h, ?_⟩, loadFrom_ok, loadFrom_ok, loadFrom_ok, loadFrom_ok, loadFrom_ok⟩
  · rw [exec_ldRegAtHL, loadFrom_ok (a := s.regs.hl) h]
    exact gives_setReg8 s dst v
  · rw [BitVec.sub_eq_add_neg]
    exact loadStep_ok (-1) h

/-- Settles O41: each row is `storeTo` at its address, or `storeStep` by 1 or -1. -/
theorem storeByte : Obligations.StoreByte := by
  unfold Obligations.StoreByte
  intro s t v n a
  refine ⟨fun src h => ?_, storeTo_ok, storeTo_ok, storeTo_ok, storeTo_ok, storeTo_ok, storeTo_ok,
    fun h => ⟨storeStep_ok 1 h, ?_⟩⟩
  · rw [exec_ldAtHLReg]
    exact storeTo_ok h
  · rw [BitVec.sub_eq_add_neg]
    exact storeStep_ok (-1) h

end Sys2Proof.Machine
end

section
/-! PROOFS. The 16-bit loads and the stack (41_load16.md R450 to R457; 43_alu16.md R550, R554): the pair writes, SP plus an
offset, what a push and a pop answer, and that a pop undoes a push in RAM. -/

namespace Sys2Proof.Machine

/-! ## Loads of a pair and of SP (R451 to R453) -/

/-- Settles O42: the loads write the halves of the word, and `LD (a16),SP` stores them in turn. -/
theorem loadAndStoreWords : Obligations.LoadAndStoreWords := by
  unfold Obligations.LoadAndStoreWords
  intro s t1 t2 v a
  rw [← hiByte_eq v, ← loByte_eq v, ← hiByte_eq s.regs.sp, ← loByte_eq s.regs.sp]
  exact ⟨rfl, rfl, rfl, rfl, rfl, writeWord_ok⟩

/-! ## SP plus an offset (R454, R550, R554) -/

/-- Settles O43: both take the sum of `spPlusR8`, and write the flags last. -/
theorem stackPointerPlusOffset : Obligations.StackPointerPlusOffset := by
  unfold Obligations.StackPointerPlusOffset
  intro s e v f
  have value : (spPlusR8 s.regs.sp e).value = v := add_sext16 s.regs.sp e
  constructor
  · show loadHlSp e s = _
    rw [loadHlSp, value, State.setFlags_record, State.setPair_hl_record]
    rfl
  · show addSp e s = _
    rw [addSp, value, State.setFlags_record]
    rfl

/-! ## PUSH and POP (R450, R455 to R457) -/

theorem sub_two_add_one (a : Word) : a - 2 + 1 = a - 1 := by bv_omega

section
variable {s t1 t2 : State} {lo hi : Byte}

theorem exec_push_ok {q : StackPair}
    (h1 : busWrite (s.setSp (s.regs.sp - 2)) (s.regs.sp - 2) (loByte (s.regs.stackPair q)) = .ok t1)
    (h2 : busWrite t1 (s.regs.sp - 1) (hiByte (s.regs.stackPair q)) = .ok t2) : exec (Instr.push q) s = .next t2 := by
  rw [exec_push]
  exact push16_ok h1 (sub_two_add_one s.regs.sp ▸ h2)

theorem exec_pop_ok (q : StackPair) (h1 : busRead s s.regs.sp = .ok lo) (h2 : busRead s (s.regs.sp + 1) = .ok hi) :
    exec (Instr.pop q) s = .next ((s.setSp (s.regs.sp + 2)).setStackPair q (joinBytes hi lo)) := by
  rw [exec_pop]
  exact pop16_ok h1 h2

end

/-- Settles O44: a push stores the halves of the pair, and a pop writes the halves of the word that it reads. -/
theorem pushAndPop : Obligations.PushAndPop := by
  unfold Obligations.PushAndPop
  intro s t1 t2 q lo hi w
  constructor
  · have pushed : s.regs.stackPair q = w := by cases q <;> rfl
    rw [← hiByte_eq, ← loByte_eq, ← pushed]
    exact exec_push_ok
  · intro h1 h2
    rw [exec_pop_ok q h1 h2]
    obtain ⟨v, rfl, rfl⟩ : ∃ v, hiByte v = hi ∧ loByte v = lo :=
      ⟨joinBytes hi lo, hiByte_joinBytes hi lo, loByte_joinBytes hi lo⟩
    rw [joinBytes_hiByte_loByte]
    cases q <;> rfl

/-! ## A push in RAM and the pop after it (R450) -/

/-- From `s` to `t`, the word `w` has been stored at the RAM addresses `a` and `a + 1`. -/
structure StoresRamWord (s t : State) (a w : Word) : Prop where
  low : busRead t a = .ok (loByte w)
  high : busRead t (a + 1) = .ok (hiByte w)
  others : ∀ b, b ≠ a → b ≠ a + 1 → busRead t b = busRead s b
  rest : t = { s with wram := t.wram, hram := t.hram, vram := t.vram }

/-- EVERY WORD STORE IN RAM is accepted, reads back and changes no other read (R204, R205). -/
theorem writeWord_ram {s : State} {a : Word} (w : Word) (hi : s.Inv) (ha : RamAddress a) (ha1 : RamAddress (a + 1)) :
    ∃ t, (∀ k, writeWord s a w k = k t) ∧ StoresRamWord s t a w := by
  obtain ⟨t1, h1, lowStored⟩ := busWrite_ram (loByte w) hi ha
  obtain ⟨t2, h2, highStored⟩ := busWrite_ram (hiByte w) (busWrite_inv hi h1) ha1
  refine ⟨t2, fun _ => writeWord_ok h1 h2, ?_, highStored.reads, fun b hb hb1 => ?_, ?_⟩
  · exact (highStored.others a (add_one_ne_self a).symm).trans lowStored.reads
  · exact (highStored.others b hb1).trans (lowStored.others b hb)
  · rw [highStored.rest, lowStored.rest]

/-- A pair that is written with its own value is as it was, AF too where F[3:0] is 0 (R101). -/
theorem Regs.setStackPair_stackPair {r : Regs} (hf : r.f &&& 0x0F = 0) (q : StackPair) :
    r.setStackPair q (r.stackPair q) = r := by
  have mask : r.readF &&& 0xF0 = r.f := by rw [Regs.readF, BitVec.and_assoc, BitVec.and_self]; exact Regs.readF_eq hf
  cases q <;>
    simp only [Regs.setStackPair, Regs.stackPair, Regs.setPair, Regs.pair, Regs.set8, Regs.setF, hiByte_joinBytes,
      loByte_joinBytes, mask]

/-- Settles O45: the pop reads the word that the push stored, writes it to the pair it came from and raises SP again. -/
theorem pushThenPopRestores : Obligations.PushThenPopRestores := by
  unfold Obligations.PushThenPopRestores
  intro s q hi ha ha1
  have lowered : (s.setSp (s.regs.sp - 2)).Inv := { hi with }
  rw [← sub_two_add_one] at ha1 ⊢
  obtain ⟨t, hpush, low, high, others, rest⟩ := writeWord_ram (s.regs.stackPair q) lowered ha ha1
  have regs : t.regs = s.regs.setSp (s.regs.sp - 2) := by rw [rest]; rfl
  have sp : t.regs.sp = s.regs.sp - 2 := by rw [regs]; rfl
  rw [← sp] at low high
  refine ⟨t, (exec_push s q).trans (hpush _), _, exec_pop_ok q low high, ?_, ?_, fun a hb hb1 => ?_⟩
  · have raised : t.regs.setSp (t.regs.sp + 2) = s.regs := by rw [sp, BitVec.sub_add_cancel, regs]; rfl
    show (t.regs.setSp (t.regs.sp + 2)).setStackPair q _ = _
    rw [raised, joinBytes_hiByte_loByte, Regs.setStackPair_stackPair hi.fLow]
  · show t.status = s.status
    rw [rest]
    rfl
  · calc
      busRead _ a = busRead t a := by simp [State.setStackPair_eq, State.setSp_eq]
      _ = busRead (s.setSp (s.regs.sp - 2)) a := others a hb hb1
      _ = busRead s a := busRead_setRegs s _ a

end Sys2Proof.Machine
end

section
/-! PROOFS. 8-bit arithmetic and logic (42_alu8.md R500 to R514): the results and flags over the integers, what an ALU
operation makes of the state, and what it answers once its operand is read. -/

namespace Sys2Proof.Machine

/-! ## Results and flags over the integers (R500, R501, R511, R513) -/

/-- Z of a sum is that the exact sum is 0 mod 256 (R500). -/
theorem add8_eq (a b : Byte) (cin : Bool) :
    add8 a b cin =
      { value := BitVec.ofNat 8 (a.toNat + b.toNat + bit cin)
        z := decide ((a.toNat + b.toNat + bit cin) % 256 = 0)
        n := false
        h := decide (a.toNat % 16 + b.toNat % 16 + bit cin > 0xF)
        c := decide (a.toNat + b.toNat + bit cin > 0xFF) } := by
  have zero : BitVec.ofNat 8 (a.toNat + b.toNat + bit cin) = 0 ↔ (a.toNat + b.toNat + bit cin) % 256 = 0 := by
    rw [← BitVec.toNat_inj]
    rfl
  simp only [add8, zero]

/-- The wrapping difference is the exact difference mod 256 (R501). -/
theorem sub_sub_eq_ofInt (a b : Byte) (cin : Nat) :
    a - b - BitVec.ofNat 8 cin = BitVec.ofInt 8 (a.toNat - b.toNat - cin : Int) := by
  simp only [sub_eq_add_neg, BitVec.ofInt_add, BitVec.ofInt_neg, BitVec.ofInt_natCast, BitVec.ofNat_toNat,
    BitVec.setWidth_eq]

theorem sub8_eq (a b : Byte) (cin : Bool) :
    sub8 a b cin =
      { value := BitVec.ofInt 8 (a.toNat - b.toNat - bit cin : Int)
        z := decide (BitVec.ofInt 8 (a.toNat - b.toNat - bit cin : Int) = 0)
        n := true
        h := decide (b.toNat % 16 + bit cin > a.toNat % 16)
        c := decide (b.toNat + bit cin > a.toNat) } := by
  simp only [sub8, sub_sub_eq_ofInt]

theorem toNat_and_lowNibble (v : Byte) : (v &&& 0xF).toNat = v.toNat % 16 := by
  rw [BitVec.toNat_and]
  exact Nat.and_two_pow_sub_one_eq_mod v.toNat 4

theorem inc8_eq (v : Byte) (c : Bool) :
    inc8 v c = { value := v + 1, z := decide (v = 0xFF), n := false, h := decide (v.toNat % 16 = 0xF), c := c } := by
  have zero : v + 1 = 0 ↔ v = 0xFF := by bv_omega
  have carry : v &&& 0xF = 0xF ↔ v.toNat % 16 = 0xF := by
    rw [← BitVec.toNat_inj, toNat_and_lowNibble]
    rfl
  simp only [inc8, zero, carry]

theorem dec8_eq (v : Byte) (c : Bool) :
    dec8 v c = { value := v - 1, z := decide (v = 0x01), n := true, h := decide (v.toNat % 16 = 0), c := c } := by
  have zero : v - 1 = 0 ↔ v = 0x01 := by bv_omega
  have borrow : v &&& 0xF = 0 ↔ v.toNat % 16 = 0 := by
    rw [← BitVec.toNat_inj, toNat_and_lowNibble]
    rfl
  simp only [dec8, zero, borrow]

/-! ## The ALU operations on the state (R502 to R510) -/

section
variable {s t : State} {op : AluOp} {v : Byte} {o : Operand8}

/-- EVERY ALU OPERATION writes its flags to F and, but for CP, its result to A, and changes nothing else. -/
theorem applyAlu_record {r : AluResult} (h : aluResult op s.regs.a v s.regs.flagC = r) :
    applyAlu op v s = { s with regs := { s.regs with
      a := if writesBack op then r.value else s.regs.a
      f := packFlags r.z r.n r.h r.c } } := by
  simp only [applyAlu, h, State.setFlags_record]
  split <;> rfl

theorem exec_aluImm_answers (h : applyAlu op v s = t) : exec (Instr.aluImm v op) s = .next t := by
  rw [exec_aluImm, aluImmediate, h]

theorem exec_alu_answers (hr : OperandReads s o v) (h : applyAlu op v s = t) : exec (Instr.alu op o) s = .next t := by
  rw [exec_alu, aluOperand, readOperand8_reads hr, h]

end

/-- Settles O46: both operations are `add8`, without a carry in and with F.C. -/
theorem addAndAdc : Obligations.AddAndAdc := by
  unfold Obligations.AddAndAdc
  intro s v o sum c
  have add : applyAlu .add v s = sum 0 := applyAlu_record (op := .add) (add8_eq s.regs.a v false)
  have adc : applyAlu .adc v s = sum c := applyAlu_record (op := .adc) (add8_eq s.regs.a v s.regs.flagC)
  exact ⟨exec_aluImm_answers add, exec_aluImm_answers adc, fun h => ⟨exec_alu_answers h add, exec_alu_answers h adc⟩⟩

/-- Settles O47: the three operations are `sub8`, and CP alone does not write its result back. -/
theorem subSbcAndCp : Obligations.SubSbcAndCp := by
  unfold Obligations.SubSbcAndCp
  intro s v o r f diff compared c
  have sub : applyAlu .sub v s = diff 0 := applyAlu_record (op := .sub) (sub8_eq s.regs.a v false)
  have sbc : applyAlu .sbc v s = diff c := applyAlu_record (op := .sbc) (sub8_eq s.regs.a v s.regs.flagC)
  have cp : applyAlu .cp v s = compared := by
    rw [applyAlu_record (op := .cp) (sub8_eq s.regs.a v false)]
    rfl
  exact ⟨exec_aluImm_answers sub, exec_aluImm_answers sbc, exec_aluImm_answers cp,
    fun h => ⟨exec_alu_answers h sub, exec_alu_answers h sbc, exec_alu_answers h cp⟩⟩

/-- Settles O48: the three operations are `logic8` of the bitwise result. -/
theorem andXorAndOr : Obligations.AndXorAndOr := by
  unfold Obligations.AndXorAndOr
  intro s v o out
  have and : applyAlu .and v s = out (s.regs.a &&& v) true := applyAlu_record rfl
  have xor : applyAlu .xor v s = out (s.regs.a ^^^ v) false := applyAlu_record rfl
  have or : applyAlu .or v s = out (s.regs.a ||| v) false := applyAlu_record rfl
  exact ⟨exec_aluImm_answers and, exec_aluImm_answers xor, exec_aluImm_answers or,
    fun h => ⟨exec_alu_answers h and, exec_alu_answers h xor, exec_alu_answers h or⟩⟩

/-! ## INC and DEC (R511 to R514) -/

/-- Settles O49: both read the operand, and write `inc8` or `dec8` of it back with the old C. -/
theorem incAndDec : Obligations.IncAndDec := by
  unfold Obligations.IncAndDec
  intro s v o h
  constructor
  · rw [exec_inc, incOperand, readOperand8_reads h, inc8_eq]
    exact writeOperand8_setFlags_writes s _ _ _ _ _ o
  · rw [exec_dec, decOperand, readOperand8_reads h, dec8_eq]
    exact writeOperand8_setFlags_writes s _ _ _ _ _ o

end Sys2Proof.Machine
end

section
/-! PROOFS. 16-bit arithmetic (43_alu16.md R551 to R553): what a write of BC or DE leaves, what `ADD HL,rr` makes of the
state, and every row as one of them. -/

namespace Sys2Proof.Machine

section
variable (s : State) (w : Word) (p : Pair)

/-- Writing BC writes B and C alone (R100). -/
theorem State.setPair_bc_record :
    s.setPair .bc w = { s with regs := { s.regs with b := (w >>> 8).setWidth 8, c := w.setWidth 8 } } := by
  rw [← hiByte_eq, ← loByte_eq]
  rfl

/-- Writing DE writes D and E alone (R100). -/
theorem State.setPair_de_record :
    s.setPair .de w = { s with regs := { s.regs with d := (w >>> 8).setWidth 8, e := w.setWidth 8 } } := by
  rw [← hiByte_eq, ← loByte_eq]
  rfl

theorem exec_incPair_answers {t : State} (h : s.setPair p (s.regs.pair p + 1) = t) :
    exec (Instr.incPair p) s = .next t := by
  rw [exec_incPair, incPair, h]

theorem exec_decPair_answers {t : State} (h : s.setPair p (s.regs.pair p - 1) = t) :
    exec (Instr.decPair p) s = .next t := by
  rw [exec_decPair, decPair, h]

/-- EVERY `ADD HL,rr` writes the sum to HL and N, H and C to F, and changes nothing else (R553). -/
theorem exec_addHLPair_record :
    exec (Instr.addHLPair p) s = .next { s with regs := { s.regs with
      h := ((s.regs.hl + s.regs.pair p) >>> 8).setWidth 8
      l := (s.regs.hl + s.regs.pair p).setWidth 8
      f := packFlags s.regs.flagZ false
        (decide (s.regs.hl.toNat % 0x1000 + (s.regs.pair p).toNat % 0x1000 > 0x0FFF))
        (decide (s.regs.hl.toNat + (s.regs.pair p).toNat > 0xFFFF)) } } := by
  rw [exec_addHLPair, addHl, State.setFlags_record, State.setPair_hl_record]
  rfl

end

/-- Settles O50: INC and DEC write the stepped pair back alone, and ADD writes HL and the flags. -/
theorem wordArithmetic : Obligations.WordArithmetic := by
  unfold Obligations.WordArithmetic
  intro s bc de hl sum
  exact ⟨exec_incPair_answers s .bc (State.setPair_bc_record s _),
    exec_incPair_answers s .de (State.setPair_de_record s _),
    exec_incPair_answers s .hl (State.setPair_hl_record s _), exec_incPair_answers s .sp rfl,
    exec_decPair_answers s .bc (State.setPair_bc_record s _),
    exec_decPair_answers s .de (State.setPair_de_record s _),
    exec_decPair_answers s .hl (State.setPair_hl_record s _), exec_decPair_answers s .sp rfl,
    exec_addHLPair_record s .bc, exec_addHLPair_record s .de, exec_addHLPair_record s .hl, exec_addHLPair_record s .sp⟩

end Sys2Proof.Machine
end

section
/-! PROOFS. Rotates and shifts (44_rotate_shift.md R600 to R611): what every operation makes of a byte, and what it
answers on A and on an operand. -/

namespace Sys2Proof.Machine

/-! ## The circular rotates and the arithmetic shift, bit by bit (R600, R601, R604, R605, R609) -/

@[simp] theorem getElem_bitByte (b : Bool) (i : Nat) (hi : i < 8) : (bitByte b)[i] = (decide (i = 0) && b) := by
  cases b <;> simp [bitByte]

theorem getElem_topBit : ∀ (i : Nat) (hi : i < 8), (0x80#8)[i] = decide (i = 7) := by decide

theorem rotateLeft_one_eq (v : Byte) : v <<< 1 ||| bitByte (v.getLsbD 7) = v.rotateLeft 1 := by
  ext i hi
  by_cases bottom : i = 0
  · simp [BitVec.getElem_rotateLeft, bottom]
  · simp [BitVec.getElem_rotateLeft, bottom]

theorem rotateRight_one_eq (v : Byte) : v >>> 1 ||| bitByte (v.getLsbD 0) <<< 7 = v.rotateRight 1 := by
  ext i hi
  by_cases top : i = 7
  · simp [BitVec.getElem_rotateRight, top]
  · simp [BitVec.getElem_rotateRight, show i < 7 by omega, show 1 + i < 8 by omega]

/-- The shift to the right that keeps the top bit. -/
theorem sshiftRight_one_eq (v : Byte) : v >>> 1 ||| v &&& 0x80 = v.sshiftRight 1 := by
  ext i hi
  by_cases top : i = 7
  · simp [BitVec.getElem_sshiftRight, BitVec.msb_eq_getLsbD_last, top]
  · simp [BitVec.getElem_sshiftRight, getElem_topBit, top, show 1 + i < 8 by omega]

/-! ## The other results over the integers (R602, R603, R606 to R608, R610, R611) -/

/-- A byte shifted up by `k` places, and a byte that fits in the `k` places below it. -/
theorem shiftLeft_or_eq_ofNat {k : Nat} (x y : Byte) (hy : y.toNat < 2 ^ k) :
    x <<< k ||| y = BitVec.ofNat 8 (2 ^ k * x.toNat + y.toNat) := by
  apply BitVec.eq_of_toNat_eq
  rw [Nat.two_pow_add_eq_or_of_lt hy, BitVec.toNat_ofNat, Nat.or_mod_two_pow, Nat.mod_eq_of_lt y.isLt,
    BitVec.toNat_or, BitVec.toNat_shiftLeft, Nat.shiftLeft_eq, Nat.mul_comm]

theorem toNat_bitByte (b : Bool) : (bitByte b).toNat = bit b := by cases b <;> rfl

theorem toNat_bitByte_lt (b : Bool) : (bitByte b).toNat < 2 ^ 1 := by cases b <;> decide

/-- The carry enters at the bottom (R602, R606). -/
theorem shiftLeft_one_or_bitByte (v : Byte) (c : Bool) :
    v <<< 1 ||| bitByte c = BitVec.ofNat 8 (2 * v.toNat + bit c) := by
  rw [shiftLeft_or_eq_ofNat _ _ (toNat_bitByte_lt c), toNat_bitByte, pow_one]

/-- The carry enters at the top (R603, R607). -/
theorem ushiftRight_one_or_bitByte (v : Byte) (c : Bool) :
    v >>> 1 ||| bitByte c <<< 7 = BitVec.ofNat 8 (v.toNat / 2 + 128 * bit c) := by
  rw [BitVec.or_comm, shiftLeft_or_eq_ofNat _ _ (by bv_omega), toNat_bitByte, Nat.add_comm]
  rfl

theorem shiftLeft_one_eq_ofNat (v : Byte) : v <<< 1 = BitVec.ofNat 8 (2 * v.toNat) := by bv_omega

theorem ushiftRight_one_eq_ofNat (v : Byte) : v >>> 1 = BitVec.ofNat 8 (v.toNat / 2) := by bv_omega

/-- The low nibble goes up and the high nibble comes down (R610). -/
theorem swapNibbles_eq_ofNat (v : Byte) :
    (v &&& 0x0F) <<< 4 ||| v >>> 4 = BitVec.ofNat 8 (v.toNat % 16 * 16 + v.toNat / 16) := by
  rw [shiftLeft_or_eq_ofNat _ _ (by bv_omega), toNat_and_lowNibble, BitVec.toNat_ushiftRight, Nat.shiftRight_eq_div_pow,
    Nat.mul_comm]
  rfl

/-! ## The operations on the state -/

section
variable {s : State} {op : RotOp} {v : Byte} {o : Operand8} {r : Byte} {c : Bool}

/-- EVERY ACCUMULATOR ROTATE writes its result to A and the bit shifted out to C, clears Z, N and H, and changes nothing
else. -/
theorem rotA_record (h : rotResult op s.regs.a s.regs.flagC = { value := r, c := c }) :
    rotA op s = .next { s with regs := { s.regs with a := r, f := packFlags false false false c } } := by
  rw [rotA, h, State.setFlags_record]
  rfl

/-- EVERY CB-PREFIXED ROTATE, SHIFT AND SWAP writes its result back to the operand that it reads, then the flags. -/
theorem exec_rot_writes (hr : OperandReads s o v) (h : rotResult op v s.regs.flagC = { value := r, c := c }) :
    WritesOperand s o r (packFlags (decide (r = 0)) false false c) (exec (Instr.rot op o) s) := by
  rw [exec_rot, rotOperand, readOperand8_reads hr, h]
  exact writeOperand8_setFlags_writes s r _ _ _ _ o

end

/-! ## The operations on a byte -/

section
variable (v : Byte) (c : Bool)

theorem rotResult_rlc : rotResult .rlc v c = { value := v.rotateLeft 1, c := v.getLsbD 7 } := by
  rw [rotResult, rotateLeft_one_eq]

theorem rotResult_rrc : rotResult .rrc v c = { value := v.rotateRight 1, c := v.getLsbD 0 } := by
  rw [rotResult, rotateRight_one_eq]

theorem rotResult_rl : rotResult .rl v c = { value := BitVec.ofNat 8 (2 * v.toNat + bit c), c := v.getLsbD 7 } := by
  rw [rotResult, shiftLeft_one_or_bitByte]

theorem rotResult_rr :
    rotResult .rr v c = { value := BitVec.ofNat 8 (v.toNat / 2 + 128 * bit c), c := v.getLsbD 0 } := by
  rw [rotResult, ushiftRight_one_or_bitByte]

theorem rotResult_sla : rotResult .sla v c = { value := BitVec.ofNat 8 (2 * v.toNat), c := v.getLsbD 7 } := by
  rw [rotResult, shiftLeft_one_eq_ofNat]

theorem rotResult_sra : rotResult .sra v c = { value := v.sshiftRight 1, c := v.getLsbD 0 } := by
  rw [rotResult, sshiftRight_one_eq]

theorem rotResult_swap :
    rotResult .swap v c = { value := BitVec.ofNat 8 (v.toNat % 16 * 16 + v.toNat / 16), c := false } := by
  rw [rotResult, swapNibbles_eq_ofNat]

theorem rotResult_srl : rotResult .srl v c = { value := BitVec.ofNat 8 (v.toNat / 2), c := v.getLsbD 0 } := by
  rw [rotResult, ushiftRight_one_eq_ofNat]

end

/-- Settles O52: each row reads its operand, and writes its own `rotResult` of it back. -/
theorem rotatesShiftsAndSwap : Obligations.RotatesShiftsAndSwap := by
  unfold Obligations.RotatesShiftsAndSwap
  intro s v o h c out
  exact ⟨exec_rot_writes h (rotResult_rlc v _), exec_rot_writes h (rotResult_rrc v _),
    exec_rot_writes h (rotResult_rl v s.regs.flagC), exec_rot_writes h (rotResult_rr v s.regs.flagC),
    exec_rot_writes h (rotResult_sla v _), exec_rot_writes h (rotResult_sra v _),
    exec_rot_writes h (rotResult_swap v _), exec_rot_writes h (rotResult_srl v _)⟩

/-- Settles O51: each row is `rotA` of the same operation on A. -/
theorem accumulatorRotates : Obligations.AccumulatorRotates := by
  unfold Obligations.AccumulatorRotates
  intro s a c out
  exact ⟨rotA_record (rotResult_rlc a _), rotA_record (rotResult_rrc a _), rotA_record (rotResult_rl a s.regs.flagC),
    rotA_record (rotResult_rr a s.regs.flagC)⟩

end Sys2Proof.Machine
end

section
/-! PROOFS. The single-bit operations (45_bit.md R650 to R652): each reads its operand, and RES and SET write back the byte
that differs from it in the one bit. -/

namespace Sys2Proof.Machine

section
variable {s : State} {v r : Byte} {b : Fin 8} {o : Operand8}

/-- EVERY `BIT b,z` writes F alone (R650). -/
theorem exec_bit_record (hr : OperandReads s o v) :
    exec (Instr.bit b o) s = .next { s with regs := { s.regs with
      f := packFlags (!v.getLsbD b.val) false true s.regs.flagC } } := by
  rw [exec_bit, bitTest, readOperand8_reads hr, State.setFlags_record]

/-- EVERY `RES b,z` writes its operand with the bit masked out, and no flag (R651). -/
theorem exec_res_writes (hr : OperandReads s o v) (h : v &&& ~~~(bitMask b.val) = r) :
    WritesOperand s o r s.regs.f (exec (Instr.res b o) s) := by
  rw [exec_res, bitReset, readOperand8_reads hr, h]
  exact writeOperand8_writes s r o

/-- EVERY `SET b,z` writes its operand with the mask's bit added, and no flag (R652). -/
theorem exec_set_writes (hr : OperandReads s o v) (h : v ||| bitMask b.val = r) :
    WritesOperand s o r s.regs.f (exec (Instr.set b o) s) := by
  rw [exec_set, bitSet, readOperand8_reads hr, h]
  exact writeOperand8_writes s r o

end

/-- Settles O53: the byte that RES or SET makes with the mask is the one whose eight bits the statement names. -/
theorem bitResAndSet : Obligations.BitResAndSet := by
  unfold Obligations.BitResAndSet
  intro s v r b o hr
  exact ⟨exec_bit_record hr, fun bitCleared => exec_res_writes hr (clearBit_unique bitCleared),
    fun bitAdded => exec_set_writes hr (setBit_unique bitAdded)⟩

end Sys2Proof.Machine
end

section
/-! PROOFS. Control transfer (46_control.md R700 to R710): a conditional form against its condition, the target of a relative
jump, and what a call and a return answer where the bus accepts both bytes of the stack. -/

namespace Sys2Proof.Machine

/-! ## The negated conditions (R304) -/

section
variable {r : Regs}

theorem Regs.holds_nz_of_clear (h : r.flagZ = false) : r.holds .nz = true := by rw [Regs.holds, h]; rfl

theorem Regs.not_holds_nz_of_set (h : r.flagZ = true) : r.holds .nz = false := by rw [Regs.holds, h]; rfl

theorem Regs.holds_nc_of_clear (h : r.flagC = false) : r.holds .nc = true := by rw [Regs.holds, h]; rfl

theorem Regs.not_holds_nc_of_set (h : r.flagC = true) : r.holds .nc = false := by rw [Regs.holds, h]; rfl

end

/-! ## Jumps (R700 to R704) -/

section
variable (s : State) (a : Word)

/-- EVERY CONDITIONAL JUMP writes PC alone, and only where its condition holds (R701, R704). -/
theorem jumpIf_eq (cc : Cond) : jumpIf cc a s = .next (if s.regs.holds cc then s.setPc a else s) := by
  rw [jumpIf, jump, ← apply_ite]

theorem jumpIf_nz : jumpIf .nz a s = .next (if s.regs.flagZ then s else s.setPc a) := by
  rw [jumpIf_eq]
  cases h : s.regs.flagZ
  · rw [Regs.holds_nz_of_clear h]; rfl
  · rw [Regs.not_holds_nz_of_set h]; rfl

theorem jumpIf_nc : jumpIf .nc a s = .next (if s.regs.flagC then s else s.setPc a) := by
  rw [jumpIf_eq]
  cases h : s.regs.flagC
  · rw [Regs.holds_nc_of_clear h]; rfl
  · rw [Regs.not_holds_nc_of_set h]; rfl

end

/-- Settles O54: each row is `jump` or `jumpIf` to its target, and the relative target is a sum over the integers. -/
theorem jumps : Obligations.Jumps := by
  unfold Obligations.Jumps
  intro s a e into rel z c
  have target : rel = relativeTarget s e := (add_sext16 s.regs.pc e).symm
  rw [target]
  exact ⟨rfl, rfl, rfl, jumpIf_nz s a, jumpIf_eq s a .z, jumpIf_nc s a, jumpIf_eq s a .c,
    jumpIf_nz s _, jumpIf_eq s _ .z, jumpIf_nc s _, jumpIf_eq s _ .c⟩

/-! ## Calls and restarts (R705, R706, R710) -/

section
variable {s t1 t2 : State} {a : Word} {cc : Cond}

theorem callIf_not_holds (h : s.regs.holds cc = false) : callIf cc a s = .next s := by rw [callIf, h]; rfl

theorem callIf_holds (h : s.regs.holds cc = true) : callIf cc a s = call a s := if_pos h

/-- EVERY CALL AND RESTART pushes PC, then writes it, where both bytes are accepted. -/
theorem call_ok (a : Word) (h1 : busWrite (s.setSp (s.regs.sp - 2)) (s.regs.sp - 2) (loByte s.regs.pc) = .ok t1)
    (h2 : busWrite t1 (s.regs.sp - 1) (hiByte s.regs.pc) = .ok t2) : call a s = .next (t2.setPc a) :=
  push16_ok h1 (sub_two_add_one s.regs.sp ▸ h2)

end

/-- Settles O55: each row is `call` to its target, where its condition holds. -/
theorem callsAndRestarts : Obligations.CallsAndRestarts := by
  unfold Obligations.CallsAndRestarts
  intro s t1 t2 a t z c into
  refine ⟨fun hz => callIf_not_holds (Regs.not_holds_nz_of_set hz), callIf_not_holds (cc := .z),
    fun hc => callIf_not_holds (Regs.not_holds_nc_of_set hc), callIf_not_holds (cc := .c), ?_⟩
  rw [← hiByte_eq, ← loByte_eq]
  intro h1 h2
  have called (w : Word) : call w s = into w := call_ok w h1 h2
  have taken {cc : Cond} (h : s.regs.holds cc = true) : callIf cc a s = into a := (callIf_holds h).trans (called a)
  exact ⟨called a, (exec_rst s t).trans (called _), fun hz => taken (Regs.holds_nz_of_clear hz), taken (cc := .z),
    fun hc => taken (Regs.holds_nc_of_clear hc), taken (cc := .c)⟩

/-! ## Returns (R707 to R709) -/

section
variable {s : State} {lo hi : Byte} {cc : Cond}

theorem retIf_not_holds (h : s.regs.holds cc = false) : retIf cc s = .next s := by rw [retIf, h]; rfl

theorem retIf_holds (h : s.regs.holds cc = true) : retIf cc s = ret s := if_pos h

theorem ret_ok (h1 : busRead s s.regs.sp = .ok lo) (h2 : busRead s (s.regs.sp + 1) = .ok hi) :
    ret s = .next ((s.setSp (s.regs.sp + 2)).setPc (joinBytes hi lo)) := pop16_ok h1 h2

theorem returnFromInterrupt_ok (h1 : busRead s s.regs.sp = .ok lo) (h2 : busRead s (s.regs.sp + 1) = .ok hi) :
    returnFromInterrupt s = .next (((s.setSp (s.regs.sp + 2)).setPc (joinBytes hi lo)).setIme true) := pop16_ok h1 h2

end

/-- Settles O56: each row is `ret`, where its condition holds; RETI is `returnFromInterrupt`. -/
theorem returns : Obligations.Returns := by
  unfold Obligations.Returns
  intro s lo hi z c back
  refine ⟨fun hz => retIf_not_holds (Regs.not_holds_nz_of_set hz), retIf_not_holds (cc := .z),
    fun hc => retIf_not_holds (Regs.not_holds_nc_of_set hc), retIf_not_holds (cc := .c), fun h1 h2 => ?_⟩
  have returned : ret s = .next back := ret_ok h1 h2
  have taken {cc : Cond} (h : s.regs.holds cc = true) : retIf cc s = .next back := (retIf_holds h).trans returned
  exact ⟨returned, returnFromInterrupt_ok h1 h2, fun hz => taken (Regs.holds_nz_of_clear hz), taken (cc := .z),
    fun hc => taken (Regs.holds_nc_of_clear hc), taken (cc := .c)⟩

end Sys2Proof.Machine
end

section
/-! PROOFS. DAA, the flag instructions, NOP, HALT, STOP, DI and EI (47_misc.md R750 to R758): the places of the flags in F,
the two corrections of DAA over the integers, and what they make of the sum and the difference of two packed-BCD bytes. -/

namespace Sys2Proof.Machine

/-! ## The flags of F (R101, R102) -/

section
variable (z n h c : Bool)

theorem packFlags_flagZ : (packFlags z n h c).getLsbD 7 = z := by cases z <;> cases n <;> cases h <;> cases c <;> rfl

theorem packFlags_flagN : (packFlags z n h c).getLsbD 6 = n := by cases z <;> cases n <;> cases h <;> cases c <;> rfl

theorem packFlags_flagH : (packFlags z n h c).getLsbD 5 = h := by cases z <;> cases n <;> cases h <;> cases c <;> rfl

theorem packFlags_flagC : (packFlags z n h c).getLsbD 4 = c := by cases z <;> cases n <;> cases h <;> cases c <;> rfl

end

/-- Settles O59: CPL, SCF and CCF write the flags that `packFlags` makes, and CPL writes A. -/
theorem flagInstructions : Obligations.FlagInstructions := by
  unfold Obligations.FlagInstructions
  refine ⟨fun z n h c => ⟨packFlags_flagZ z n h c, packFlags_flagN z n h c, packFlags_flagH z n h c,
    packFlags_flagC z n h c, packFlags_low z n h c⟩, fun s => ?_⟩
  exact ⟨congrArg Host.Outcome.next (State.setFlags_record (s.setReg8 .a (~~~s.regs.a)) _ _ _ _),
    congrArg Host.Outcome.next (State.setFlags_record s _ _ _ _),
    congrArg Host.Outcome.next (State.setFlags_record s _ _ _ _)⟩

/-- Settles O60: every row answers its own state, with IME written by DI and EI. -/
theorem nopHaltStopDiAndEi : Obligations.NopHaltStopDiAndEi := by
  unfold Obligations.NopHaltStopDiAndEi
  intro s ignored
  exact ⟨rfl, rfl, rfl, rfl, rfl⟩

/-! ## The corrections of DAA over the integers (R750) -/

/-- The correction of the high digit, on A as a number, N and C. -/
def daaHigh (a : Nat) (n c : Bool) : Nat := if c = true ∨ (n = false ∧ a > 0x99) then 0x60 else 0

/-- The correction of the low digit, on A as a number, N and H. -/
def daaLow (a : Nat) (n h : Bool) : Nat := if h = true ∨ (n = false ∧ a % 16 > 9) then 0x06 else 0

/-- The adjusted A: the corrections are added after an addition and subtracted after a subtraction. -/
def daaValue (a : Nat) (n h c : Bool) : Byte :=
  if n then BitVec.ofInt 8 (a - daaHigh a n c - daaLow a n h : Int)
  else BitVec.ofNat 8 (a + daaHigh a n c + daaLow a n h)

section
variable (a : Nat) (h c : Bool)

theorem daaHigh_addition : daaHigh a false c = if c || decide (a > 0x99) then 0x60 else 0 := by simp [daaHigh]

theorem daaLow_addition : daaLow a false h = if h || decide (a % 16 > 9) then 0x06 else 0 := by simp [daaLow]

theorem daaHigh_subtraction : daaHigh a true c = if c then 0x60 else 0 := by simp [daaHigh]

theorem daaLow_subtraction : daaLow a true h = if h then 0x06 else 0 := by simp [daaLow]

end

section
variable (a : Byte) (h c : Bool)

theorem daaValue_addition :
    daaValue a.toNat false h c
      = a + BitVec.ofNat 8 (daaHigh a.toNat false c) + BitVec.ofNat 8 (daaLow a.toNat false h) := by
  simp [daaValue, BitVec.ofNat_add]

theorem daaValue_subtraction :
    daaValue a.toNat true h c
      = a - BitVec.ofNat 8 (daaHigh a.toNat true c) - BitVec.ofNat 8 (daaLow a.toNat true h) := by
  simp only [daaValue, if_true, sub_eq_add_neg, BitVec.ofInt_add, BitVec.ofInt_neg, BitVec.ofInt_natCast,
    BitVec.ofNat_toNat, BitVec.setWidth_eq]

/-- The first correction leaves the digit that the second one tests as it was. -/
theorem lowNibble_after_daaHigh (high : Bool) :
    ((if high then a + 0x60 else a) &&& 0x0F).toNat = a.toNat % 16 := by
  rw [toNat_and_lowNibble]
  cases high
  · rfl
  · show (a + 0x60).toNat % 16 = _
    bv_omega

/-- EVERY RESULT OF DAA: A with both corrections, and C set exactly where the high digit's was applied (R750). -/
theorem daaResult_eq (n : Bool) :
    daaResult a n h c = { value := daaValue a.toNat n h c, c := decide (daaHigh a.toNat n c = 0x60) } := by
  cases n with
  | true =>
    rw [daaValue_subtraction, daaHigh_subtraction, daaLow_subtraction]
    cases h <;> cases c <;> simp [daaResult]
  | false =>
    rw [daaValue_addition, daaHigh_addition, daaLow_addition]
    simp only [daaResult, lowNibble_after_daaHigh]
    generalize (c || _) = high
    generalize (h || _) = low
    cases high <;> cases low <;> simp

end

/-- DAA writes its result to A and the flags to F, keeps N, and changes nothing else (R750). -/
theorem exec_daa_record {s : State} {r : RotResult}
    (h : daaResult s.regs.a s.regs.flagN s.regs.flagH s.regs.flagC = r) :
    exec .daa s = .next { s with regs := { s.regs with
      a := r.value
      f := packFlags (decide (r.value = 0)) s.regs.flagN false r.c } } := by
  subst h
  exact congrArg Host.Outcome.next (State.setFlags_record _ _ _ _ _)

/-- Settles O57: the corrections that the statement names are `daaHigh` and `daaLow` (`decimalAdjust` is the model's
function). -/
theorem decimalAdjust_holds : Obligations.DecimalAdjust := by
  unfold Obligations.DecimalAdjust
  intro s a n h c high low r
  exact exec_daa_record (daaResult_eq s.regs.a h c n)

/-! ## DAA after the addition or the subtraction of two packed-BCD bytes (R750, Q7) -/

theorem decimal_digits {x : Nat} (hx : x < 100) : ∃ h l, h < 10 ∧ l < 10 ∧ x = 10 * h + l :=
  ⟨x / 10, x % 10, by omega, by omega, by omega⟩

theorem bcd_digits {h l : Nat} (hl : l < 10) : bcd (10 * h + l) = BitVec.ofNat 8 (16 * h + l) := by
  rw [bcd]
  congr 1
  omega

section
variable {h l : Nat}

theorem toNat_bcd_digits (hh : h < 10) (hl : l < 10) : (bcd (10 * h + l)).toNat = 16 * h + l := by
  rw [bcd_digits hl, BitVec.toNat_ofNat]
  omega

theorem digits_mod_sixteen (hl : l < 10) : (16 * h + l) % 16 = l := by omega

/-- DAA where an addition left the digit sums `h` and `l`. With `p` and `q` the carries out of the decimal digits, the
corrections are `6 * p` and `6 * 16 * q`: what a carry of ten lacks to be one of sixteen. -/
theorem daaResult_digit_sums (hh : h ≤ 18) (hl : l ≤ 18) :
    daaResult (BitVec.ofNat 8 (16 * h + l)) false (decide (l > 0xF)) (decide (16 * h + l > 0xFF)) =
      { value := bcd ((10 * h + l) % 100), c := decide (10 * h + l > 99) } := by
  obtain ⟨p, lo, hp, hlo, units⟩ : ∃ p lo, p ≤ 1 ∧ lo < 10 ∧ l = 10 * p + lo :=
    ⟨l / 10, l % 10, by omega, by omega, by omega⟩
  obtain ⟨q, hi, hq, hhi, tens⟩ : ∃ q hi, q ≤ 1 ∧ hi < 10 ∧ h + p = 10 * q + hi :=
    ⟨(h + p) / 10, (h + p) % 10, by omega, by omega, by omega⟩
  have exact_sum : 16 * h + l > 0xFF ∨ (16 * h + l) % 2 ^ 8 > 0x99 ↔ 16 * h + l > 0x99 := by omega
  have high : daaHigh ((16 * h + l) % 2 ^ 8) false (decide (16 * h + l > 0xFF)) = 0x60 * q := by
    simp only [daaHigh_addition, Bool.or_eq_true, decide_eq_true_eq, exact_sum]
    split <;> omega
  have low : daaLow ((16 * h + l) % 2 ^ 8) false (decide (l > 0xF)) = 0x06 * p := by
    simp only [daaLow_addition, Bool.or_eq_true, decide_eq_true_eq]
    split <;> omega
  have decimal : (10 * h + l) % 100 = 10 * hi + lo := by omega
  rw [daaResult_eq, daaValue_addition, BitVec.toNat_ofNat, high, low, decimal, bcd_digits hlo]
  congr 1
  · bv_omega
  · exact decide_eq_decide.2 (by omega)

/-- DAA where a subtraction left the digit differences `h - k` and `l - m`. With `p` and `q` the borrows of the decimal
digits, the corrections are `6 * p` and `6 * 16 * q`: what a borrow of sixteen exceeds one of ten. -/
theorem daaResult_digit_differences {k m : Nat} (hh : h < 10) (hl : l < 10) (hk : k < 10) (hm : m < 10) :
    daaResult (bcd (10 * h + l) - bcd (10 * k + m)) true (decide (m > l)) (decide (16 * k + m > 16 * h + l)) =
      { value := bcd ((100 + (10 * h + l) - (10 * k + m)) % 100), c := decide (10 * h + l < 10 * k + m) } := by
  obtain ⟨p, lo, hp, hlo, units⟩ : ∃ p lo, p ≤ 1 ∧ lo < 10 ∧ l + 10 * p = m + lo :=
    ⟨1 - (10 + l - m) / 10, (10 + l - m) % 10, by omega, by omega, by omega⟩
  obtain ⟨q, hi, hq, hhi, tens⟩ : ∃ q hi, q ≤ 1 ∧ hi < 10 ∧ h + 10 * q = k + p + hi :=
    ⟨1 - (10 + h - (k + p)) / 10, (10 + h - (k + p)) % 10, by omega, by omega, by omega⟩
  have high (a : Nat) : daaHigh a true (decide (16 * k + m > 16 * h + l)) = 0x60 * q := by
    simp only [daaHigh_subtraction, decide_eq_true_eq]
    split <;> omega
  have low (a : Nat) : daaLow a true (decide (m > l)) = 0x06 * p := by
    simp only [daaLow_subtraction, decide_eq_true_eq]
    split <;> omega
  have decimal : (100 + (10 * h + l) - (10 * k + m)) % 100 = 10 * hi + lo := by omega
  rw [daaResult_eq, daaValue_subtraction, high, low, decimal, bcd_digits hl, bcd_digits hm, bcd_digits hlo]
  congr 1
  · bv_omega
  · exact decide_eq_decide.2 (by omega)

end

section
variable {x y : Nat}

/-- ADD of two packed-BCD bytes, then DAA (Q7). -/
theorem daaResult_add8_bcd (hx : x < 100) (hy : y < 100) :
    let r := add8 (bcd x) (bcd y) false
    daaResult r.value r.n r.h r.c = { value := bcd ((x + y) % 100), c := decide (x + y > 99) } := by
  obtain ⟨xh, xl, hxh, hxl, rfl⟩ := decimal_digits hx
  obtain ⟨yh, yl, hyh, hyl, rfl⟩ := decimal_digits hy
  have adjusted := daaResult_digit_sums (h := xh + yh) (l := xl + yl) (by omega) (by omega)
  have by_digit (n : Nat) : n * (xh + yh) + (xl + yl) = (n * xh + xl) + (n * yh + yl) := by ring
  rw [by_digit 16, by_digit 10] at adjusted
  simp only [add8, toNat_bcd_digits hxh hxl, toNat_bcd_digits hyh hyl, digits_mod_sixteen hxl,
    digits_mod_sixteen hyl]
  exact adjusted

/-- SUB of two packed-BCD bytes, then DAA (Q7). -/
theorem daaResult_sub8_bcd (hx : x < 100) (hy : y < 100) :
    let r := sub8 (bcd x) (bcd y) false
    daaResult r.value r.n r.h r.c = { value := bcd ((100 + x - y) % 100), c := decide (x < y) } := by
  obtain ⟨xh, xl, hxh, hxl, rfl⟩ := decimal_digits hx
  obtain ⟨yh, yl, hyh, hyl, rfl⟩ := decimal_digits hy
  have no_borrow_in (v : Byte) : v - BitVec.ofNat 8 (bit false) = v := BitVec.sub_zero v
  simp only [sub8, no_borrow_in, toNat_bcd_digits hxh hxl, toNat_bcd_digits hyh hyl,
    digits_mod_sixteen hxl, digits_mod_sixteen hyl]
  exact daaResult_digit_differences hxh hxl hyh hyl

end

/-- DAA after an ALU operation on an immediate that writes A: it adjusts that operation's result with that operation's
flags. -/
theorem gives_aluImm_then_daa {s : State} {op : AluOp} {v : Byte} {r : AluResult} {d : RotResult}
    (writes : writesBack op = true) (alu : aluResult op s.regs.a v s.regs.flagC = r)
    (daa : daaResult r.value r.n r.h r.c = d) :
    Gives (exec (Instr.aluImm v op) s) fun t => Gives (exec .daa t) fun u =>
      u.regs.a = d.value ∧ u.regs.f.getLsbD 4 = d.c := by
  refine ⟨_, exec_aluImm_answers (applyAlu_record alu), _, exec_daa_record ?_, rfl, packFlags_flagC _ _ _ _⟩
  rw [if_pos writes, Regs.flagN, Regs.flagH, Regs.flagC, packFlags_flagN, packFlags_flagH, packFlags_flagC, daa]

/-- Settles O58: ADD and SUB leave digit sums and digit differences, which DAA turns back into decimal digits. -/
theorem decimalAdjustIsCorrect : Obligations.DecimalAdjustIsCorrect := by
  unfold Obligations.DecimalAdjustIsCorrect
  intro s x y hx hy ha
  constructor
  · exact gives_aluImm_then_daa (op := .add) rfl (by rw [ha]; rfl) (daaResult_add8_bcd hx hy)
  · exact gives_aluImm_then_daa (op := .sub) rfl (by rw [ha]; rfl) (daaResult_sub8_bcd hx hy)

end Sys2Proof.Machine
end

section
/-! PROOFS. Reset and the driver (70_reset_and_hazards.md R900, R904, R908): the reset values, what a step runs, and the
cycle counts that the reference schedule uses. -/

namespace Sys2Proof.Machine

/-! ## Reset (R900) -/

/-- Settles O11: the values are those of `State.resetWith`, and STAT and JOYP read as composed from them. -/
theorem resetValues : Obligations.ResetValues := by
  unfold Obligations.ResetValues
  intro h rom boot s
  have zeros (k : Nat) : s.wram.read k = 0 ∧ s.hram.read k = 0 ∧ s.vram.read k = 0 ∧ s.cart.eram.read k = 0 :=
    ⟨rfl, rfl, rfl, rfl⟩
  have mapper {v : Variant} (hv : h.variant = v) : s.cart.mapper = Mapper.reset v := congrArg Mapper.reset hv
  have stat : busRead s 0xFF41 = .ok Ppu.reset.readStat := busRead_io s (r := .stat) rfl
  have joyp : busRead s 0xFF00 = .ok Joypad.reset.read := busRead_io s (r := .joyp) rfl
  rw [stat, joyp]
  exact ⟨rfl, rfl, rfl, rfl, zeros, rfl, rfl, rfl, rfl, mapper, mapper, mapper, rfl, rfl, rfl, rfl, rfl, rfl, rfl⟩

theorem Header.blank_legal : Header.blank.Legal := ⟨by decide, by decide, by decide⟩

/-- Settles O12: the blank header is legal, and empty ROM and boot ROM images fit. -/
theorem resetSatisfiesInvariant : Obligations.ResetSatisfiesInvariant :=
  State.resetWith_inv Header.blank_legal (Memory.fits_nil _) (Memory.fits_nil _)

/-! ## What a step runs (R904) -/

section
variable {s : State}

theorem step_of_pending {a : Action} {rest : List Action} (hr : s.status = .running) (hq : s.queue = a :: rest) :
    step s = perform a (s.setQueue rest) := by simp [step, driverStep, hr, hq]

theorem step_of_host (hr : s.status = .running) (hq : s.queue = []) (hd : s.driver = .host) : step s = cpuStep s := by
  simp [step, driverStep, hr, hq, hd]

theorem step_of_reference {inputs : List (List InputEvent)} (hr : s.status = .running) (hq : s.queue = [])
    (hd : s.driver = .reference inputs) : step s = referenceRound inputs s := by
  simp [step, driverStep, hr, hq, hd]

/-- The CPU step of a round has its device actions pending after it, if it leaves the machine running. -/
theorem referenceCpuStep_of_running {t : State} (h : cpuStep s = .next t) (ht : t.status = .running) :
    referenceCpuStep s = .next (t.setQueue (deviceActions (stepCycles s))) := by
  rw [referenceCpuStep, h]
  simp only [ht]

/-- After a fault no device action is pending. -/
theorem referenceCpuStep_of_stopped {t : State} (h : cpuStep s = .next t) (ht : t.status ≠ .running) :
    referenceCpuStep s = .next t := by
  rw [referenceCpuStep, h]
  cases hs : t.status with
  | running => exact absurd hs ht
  | faulted e => simp only [hs]

end

/-- Applying input events, oldest first, is what `AfterInputs` says (R852, R904). -/
theorem foldl_of_afterInputs {j k : Joypad} {es : List InputEvent} (h : AfterInputs j es k) :
    es.foldl Joypad.input j = k := by
  induction h with
  | none j => rfl
  | press _ ih | release _ ih => exact ih

/-- The state in which a round's CPU step runs, for the events `now` and those of the later rounds. -/
theorem roundStart_of_inputs {s : State} {now : List InputEvent} {inputs later : List (List InputEvent)} {j : Joypad}
    (hin : inputs = now :: later ∨ (inputs = [] ∧ now = [] ∧ later = [])) (h : AfterInputs s.joypad now j) :
    roundStart inputs s = { s with joypad := j, driver := .reference later } := by
  have split : inputs.headD [] = now ∧ inputs.tail = later := by
    rcases hin with rfl | ⟨rfl, rfl, rfl⟩ <;> exact ⟨rfl, rfl⟩
  obtain ⟨hnow, hlater⟩ := split
  rw [roundStart, State.applyInputs, hnow, hlater, foldl_of_afterInputs h]
  rfl

/-! ## Cycle counts (R904, R908) -/

section
variable {s : State}

theorem stepCycles_interrupt (h : s.interruptTaken = true) : stepCycles s = 20 := if_pos h

theorem condField_jrNz : condField 0x20 = .nz := by decide

theorem primaryCycles_jrNz : primaryCycles 0x20 = (3, 2) := by decide

/-- `JR NZ` counts three M-cycles taken and two not taken (R908). -/
theorem stepCycles_jrNz {r8 : Byte} (hi : s.interruptTaken = false) (h1 : busRead s s.regs.pc = .ok 0x20)
    (h2 : busRead s (s.regs.pc + 1) = .ok r8) : stepCycles s = if s.regs.flagZ then 8 else 12 := by
  simp only [stepCycles, hi, h1, h2, condField_jrNz, primaryCycles_jrNz]
  cases hz : s.regs.flagZ
  · rw [Regs.holds_nz_of_clear hz]; rfl
  · rw [Regs.not_holds_nz_of_set hz]; rfl

end

/-- Settles O38: the oldest action runs, or the CPU step, alone or in a round after its input events. -/
theorem driverRunsPendingActions : Obligations.DriverRunsPendingActions := by
  unfold Obligations.DriverRunsPendingActions
  intro s rest hr
  refine ⟨fun n => step_of_pending hr, step_of_pending hr, fun btn => step_of_pending hr, fun btn => step_of_pending hr,
    step_of_pending hr, step_of_host hr, ?_, stepCycles_interrupt, fun r8 => stepCycles_jrNz⟩
  intro now inputs later j t hq hd hin hj r hcpu
  have round : step s = referenceCpuStep r := by
    rw [step_of_reference hr hq hd, referenceRound, roundStart_of_inputs hin hj]
  rw [round]
  exact ⟨referenceCpuStep_of_running hcpu, referenceCpuStep_of_stopped hcpu⟩

end Sys2Proof.Machine
end

section
/-! PROOFS. Faults and interrupts (60_exceptions.md R801 to R808): a stopped machine, the dispatch of an interrupt, and the
state that a faulting fetch, operand read or store leaves. -/

namespace Sys2Proof.Machine

/-! ## A stopped machine (R801) -/

theorem step_of_faulted {s : State} {t : Trap} (h : s.status = .faulted t) : step s = .fault (faultOf t) := by
  rw [step, h]

/-- Settles O7: the step of a stopped machine is the host's fault of its kind. -/
theorem faultedMachineStops : Obligations.FaultedMachineStops := by
  unfold Obligations.FaultedMachineStops
  intro s w
  exact ⟨step_of_faulted, step_of_faulted, step_of_faulted, step_of_faulted⟩

/-! ## Interrupt dispatch (R806 to R808) -/

section
variable {s : State} {k : Nat}

/-- The priority scan stops at the lowest set bit (R807). -/
theorem lowestSource_eq {m : Byte} (hk : k < 5) (hset : m.getLsbD k = true)
    (hlow : ∀ j, j < k → ¬ m.getLsbD j = true) : lowestSource m = k := by
  unfold lowestSource
  interval_cases k
  · rw [if_pos hset]
  · rw [if_neg (hlow 0 (by decide)), if_pos hset]
  · rw [if_neg (hlow 0 (by decide)), if_neg (hlow 1 (by decide)), if_pos hset]
  · rw [if_neg (hlow 0 (by decide)), if_neg (hlow 1 (by decide)), if_neg (hlow 2 (by decide)), if_pos hset]
  · rw [if_neg (hlow 0 (by decide)), if_neg (hlow 1 (by decide)), if_neg (hlow 2 (by decide)),
      if_neg (hlow 3 (by decide))]

/-- The five sources are not masked out (R806). -/
theorem pending_getLsbD (hk : k < 5) : s.pending.getLsbD k = (s.ie &&& s.iflag).getLsbD k := by
  have mask : (0x1F : Byte).getLsbD k = true := by interval_cases k <;> rfl
  rw [State.pending, BitVec.getLsbD_and, mask, Bool.and_true]

theorem lowestSource_of_serviced (h : Serviced s k) : lowestSource s.pending = k := by
  obtain ⟨hk, hset, hlow⟩ := h
  refine lowestSource_eq hk ((pending_getLsbD hk).trans hset) fun j hj => ?_
  rw [pending_getLsbD (Nat.lt_trans hj hk), hlow j hj]
  exact Bool.false_ne_true

theorem interruptTaken_of_serviced (hime : s.ime = true) (h : Serviced s k) : s.interruptTaken = true := by
  obtain ⟨hk, hset, -⟩ := h
  have pending : s.pending ≠ 0 := by
    intro h0
    have clear : s.pending.getLsbD k = false := h0 ▸ BitVec.getLsbD_zero
    rw [pending_getLsbD hk, hset] at clear
    cases clear
  rw [State.interruptTaken, hime, decide_eq_true pending]
  rfl

theorem step_of_interruptTaken (h : s.CpuNext) (hi : s.interruptTaken = true) : step s = takeInterrupt s :=
  (step_of_host h.running h.queue h.driver).trans (if_pos hi)

/-- Dispatch pushes PC in the acknowledged state, then goes to the vector. -/
theorem takeInterrupt_of_serviced (h : Serviced s k) :
    takeInterrupt s = writeWord (dispatching s k) (s.regs.sp - 2) s.regs.pc fun t =>
      .next { t with regs := { t.regs with pc := BitVec.ofNat 16 (0x0040 + 8 * k) } } := by
  rw [takeInterrupt, State.acknowledge, lowestSource_of_serviced h]
  rfl

end

/-- Settles O6: the step is the push of PC in the acknowledged state, whichever of its two stores faults. -/
theorem interruptDispatch : Obligations.InterruptDispatch := by
  unfold Obligations.InterruptDispatch
  intro s k hs hime hk
  rw [step_of_interruptTaken hs (interruptTaken_of_serviced hime hk), takeInterrupt_of_serviced hk,
    ← hiByte_eq, ← loByte_eq, ← sub_two_add_one]
  exact ⟨fun t1 t2 => writeWord_ok, fun e h => writeWord_error (.inl ⟨h, rfl⟩),
    fun t1 e h1 h2 => writeWord_error (.inr ⟨h1, h2⟩)⟩

/-! ## Faulting fetches (R802) -/

section
variable {s : State} {e : Trap} {op v : Byte}

theorem State.past_zero (s : State) : s.past 0 = s := congrArg s.setPc (BitVec.add_zero s.regs.pc)

theorem fetchExecute_fault_first (h : busRead s s.regs.pc = .error e) : fetchExecute s = raiseFault (s.past 0) e := by
  rw [State.past_zero]
  exact fetchByte_error h

theorem fetchByte_past_error {n : Nat} {k : Byte → State → Out}
    (h : busRead s (s.regs.pc + BitVec.ofNat 16 n) = .error e) : fetchByte (s.past n) k = raiseFault (s.past n) e :=
  fetchByte_error ((busRead_setRegs _ _ _).trans h)

theorem fetchByte_past_ok {n : Nat} {k : Byte → State → Out}
    (h : busRead s (s.regs.pc + BitVec.ofNat 16 n) = .ok v) : fetchByte (s.past n) k = k v (s.past (n + 1)) := by
  rw [← State.past_past]
  exact fetchByte_ok ((busRead_setRegs _ _ _).trans h)

/-- Every instruction of more than one byte fetches its second byte. -/
theorem fetchExecute_fault_second (h1 : busRead s s.regs.pc = .ok op) (hlen : 2 ≤ lengthOf op)
    (h2 : busRead s (s.regs.pc + 1) = .error e) : fetchExecute s = raiseFault (s.past 1) e := by
  rw [fetchExecute, fetchByte_ok h1]
  unfold lengthOf at hlen
  generalize template op = t at hlen ⊢
  cases t with
  | plain i => simp at hlen
  | imm8 f | imm16 f | cb => exact fetchByte_past_error h2

/-- Only a 16-bit immediate has a third byte. -/
theorem fetchExecute_fault_third (h1 : busRead s s.regs.pc = .ok op) (hlen : lengthOf op = 3)
    (h2 : busRead s (s.regs.pc + 1) = .ok v) (h3 : busRead s (s.regs.pc + 2) = .error e) :
    fetchExecute s = raiseFault (s.past 2) e := by
  rw [fetchExecute, fetchByte_ok h1]
  unfold lengthOf at hlen
  generalize template op = t at hlen ⊢
  cases t with
  | plain i | imm8 f | cb => simp at hlen
  | imm16 f => exact (fetchByte_past_ok (n := 1) h2).trans (fetchByte_past_error h3)

end

/-- Settles O8: the bytes before the one that faults are fetched, and PC is past them alone. -/
theorem fetchFaultIsPrecise : Obligations.FetchFaultIsPrecise := by
  unfold Obligations.FetchFaultIsPrecise
  intro s e hs hi
  have same (a : Word) : busRead (s.setHistory (historyAfter s)) a = busRead s a := busRead_setHistory _ _ _
  rw [step_of_cpuNext hs hi, historyAppend_eq]
  simp only [← same]
  exact ⟨fetchExecute_fault_first, fun op => fetchExecute_fault_second, fun op v => fetchExecute_fault_third⟩

/-! ## Faulting operand reads (R802) -/

/-- Settles O9: each row reads its operand before it writes anything. -/
theorem operandReadFaultIsPrecise : Obligations.OperandReadFaultIsPrecise := by
  unfold Obligations.OperandReadFaultIsPrecise
  intro s e
  refine ⟨fun h => ?_, readByte_error, readByte_error, fun a => readByte_error, fun lo h => ?_⟩
  · have operand (k : Byte → Out) : StopsIn (readOperand8 .atHL s k) s e := readByte_error h
    exact ⟨fun dst => (exec_ldRegAtHL s dst).trans (operand _), operand _, operand _,
      fun op => (exec_alu s op .atHL).trans (operand _), operand _, operand _,
      fun op => (exec_rot s op .atHL).trans (operand _), fun b => (exec_bit s b .atHL).trans (operand _),
      fun b => (exec_res s b .atHL).trans (operand _), fun b => (exec_set s b .atHL).trans (operand _)⟩
  · have popped (k : Word → State → Out) : StopsIn (pop16 s k) s e := readWord_error (h.imp_right fun h2 => ⟨lo, h2⟩)
    exact ⟨fun q => (exec_pop s q).trans (popped _), show StopsIn (ret s) s e from popped _,
      show StopsIn (returnFromInterrupt s) s e from popped _,
      fun cc hcc => (exec_retCond s cc).trans ((retIf_holds hcc).trans (popped _))⟩

/-! ## Faulting stores (R802, R207) -/

section
variable {s t : State} {e : Trap} {v r : Byte}

/-- The result of a row on `(HL)` is stored before the flags are written. -/
theorem writeOperand8_atHL_error (k : State → Out) (h : busWrite s s.regs.hl v = .error e) :
    StopsIn (writeOperand8 .atHL v s k) s e := writeByte_error h

theorem readOperand8_atHL_ok {k : Byte → Out} (h : busRead s s.regs.hl = .ok v) : readOperand8 .atHL s k = k v :=
  readByte_ok h

/-- A push of `w` stops in `t`: SP is lowered, and the low byte written if it is the high byte that faults. -/
theorem push16_stopsIn {w : Word} (k : State → Out)
    (h : (busWrite (s.setSp (s.regs.sp - 2)) (s.regs.sp - 2) (loByte w) = .error e ∧ t = s.setSp (s.regs.sp - 2)) ∨
      (busWrite (s.setSp (s.regs.sp - 2)) (s.regs.sp - 2) (loByte w) = .ok t ∧
        busWrite t (s.regs.sp - 1) (hiByte w) = .error e)) : StopsIn (push16 s w k) t e := by
  rw [← sub_two_add_one] at h
  exact push16_error h

end

/-- Settles O10: each row stores before it writes a register or a flag, but for SP in a push. -/
theorem firstStoreFaultIsPrecise : Obligations.FirstStoreFaultIsPrecise := by
  unfold Obligations.FirstStoreFaultIsPrecise
  intro s e hl low
  refine ⟨fun src h => (exec_ldAtHLReg s src).trans (writeByte_error h), fun v => writeByte_error,
    fun h => ⟨writeByte_error h, writeByte_error h⟩, writeByte_error, writeByte_error, fun a => writeByte_error,
    fun v hv => ⟨fun h => ?_, fun h => ?_, fun op h => ?_, fun b r hr h => ?_, fun b r hr h => ?_⟩, fun q => ?_,
    fun t1 h => ?_, fun a => ?_⟩
  · exact (readOperand8_atHL_ok hv).trans (writeOperand8_atHL_error _ h)
  · exact (readOperand8_atHL_ok hv).trans (writeOperand8_atHL_error _ h)
  · rw [exec_rot]
    exact (readOperand8_atHL_ok hv).trans (writeOperand8_atHL_error _ h)
  · rw [exec_res, ← clearBit_unique hr] at *
    exact (readOperand8_atHL_ok hv).trans (writeOperand8_atHL_error _ h)
  · rw [exec_set, ← setBit_unique hr] at *
    exact (readOperand8_atHL_ok hv).trans (writeOperand8_atHL_error _ h)
  · intro w
    rw [← hiByte_eq, ← loByte_eq, exec_push]
    exact ⟨fun h => push16_stopsIn _ (.inl ⟨h, rfl⟩), fun t1 h1 h2 => push16_stopsIn _ (.inr ⟨h1, h2⟩)⟩
  · rw [← hiByte_eq, ← loByte_eq] at h
    have called (a : Word) : StopsIn (call a s) t1 e := push16_stopsIn _ h
    exact ⟨called, fun t => (exec_rst s t).trans (called _),
      fun a cc hcc => (exec_callCond s a cc).trans ((callIf_holds hcc).trans (called a))⟩
  · rw [← hiByte_eq, ← loByte_eq]
    exact ⟨fun h => writeWord_error (.inl ⟨h, rfl⟩), fun t1 h1 h2 => writeWord_error (.inr ⟨h1, h2⟩)⟩

end Sys2Proof.Machine
end

section
/-! PROOFS. The device registers (60_exceptions.md R804, R821 to R823, R835 to R841, R850 to R852) as the bus reads and
writes them, and the host's button events. -/

namespace Sys2Proof.Machine

/-! ## Interrupts and timer (R804, R821 to R823) -/

theorem Timer.readTac_eq (t : Timer) : t.readTac = BitVec.ofNat 8 ((if t.enable then 4 else 0) + t.select.toNat) := by
  rw [Timer.readTac]
  generalize t.enable = enable
  generalize t.select = select
  revert enable select
  decide

/-- Settles O27: each register has its own address, and a write of it writes its own field. -/
theorem interruptAndTimerRegisters : Obligations.InterruptAndTimerRegisters := by
  unfold Obligations.InterruptAndTimerRegisters
  intro s v
  have select : v.setWidth 2 = BitVec.ofNat 2 (v.toNat % 4) := setWidth_eq_ofNat_mod v 2
  rw [← Timer.readTac_eq, ← select]
  exact ⟨busRead_io s (r := .intFlag) rfl, busWrite_io s v (r := .intFlag) rfl, busRead_ie s, busWrite_ie s v,
    busRead_io s (r := .div) rfl, busWrite_io s v (r := .div) rfl,
    busRead_io s (r := .tima) rfl, busWrite_io s v (r := .tima) rfl,
    busRead_io s (r := .tma) rfl, busWrite_io s v (r := .tma) rfl,
    busRead_io s (r := .tac) rfl, busWrite_io s v (r := .tac) rfl⟩

/-! ## The PPU (R831, R835 to R841) -/

theorem Ppu.readStat_eq (p : Ppu) :
    p.readStat = (p.statW &&& 0xF8) ||| (if p.line = p.lyc.toNat then 4 else 0) |||
      (if 144 ≤ p.line then 1 else if p.dot < 80 then 2 else if p.dot < 252 then 3 else 0) := by
  rw [Ppu.readStat, Ppu.coincidence, Ppu.mode, modeAt, apply_ite (BitVec.setWidth 8), apply_ite (BitVec.setWidth 8),
    apply_ite (BitVec.setWidth 8)]
  simp only [decide_eq_true_eq]
  rfl

/-- Settles O28: each register has its own address, and a write of it writes its own field; LY drops writes. -/
theorem ppuRegisters : Obligations.PpuRegisters := by
  unfold Obligations.PpuRegisters
  intro s v p
  rw [← Ppu.readStat_eq]
  exact ⟨busRead_io s (r := .lcdc) rfl, busWrite_io s v (r := .lcdc) rfl,
    busRead_io s (r := .stat) rfl, busWrite_io s v (r := .stat) rfl,
    busRead_io s (r := .scy) rfl, busWrite_io s v (r := .scy) rfl,
    busRead_io s (r := .scx) rfl, busWrite_io s v (r := .scx) rfl,
    busRead_io s (r := .ly) rfl, busWrite_io s v (r := .ly) rfl,
    busRead_io s (r := .lyc) rfl, busWrite_io s v (r := .lyc) rfl,
    busRead_io s (r := .dma) rfl, busWrite_io s v (r := .dma) rfl,
    busRead_io s (r := .bgp) rfl, busWrite_io s v (r := .bgp) rfl,
    busRead_io s (r := .obp0) rfl, busWrite_io s v (r := .obp0) rfl,
    busRead_io s (r := .obp1) rfl, busWrite_io s v (r := .obp1) rfl,
    busRead_io s (r := .wy) rfl, busWrite_io s v (r := .wy) rfl,
    busRead_io s (r := .wx) rfl, busWrite_io s v (r := .wx) rfl⟩

/-! ## The joypad (R850 to R852) -/

section
variable (j : Joypad)

/-- The latches that are selected, in bits 3-0 of JOYP (R850). -/
def Joypad.selected : BitVec 4 :=
  let n := if j.sel.getLsbD 0 then 0xF#4 else 0xF#4 &&& j.dpad
  if j.sel.getLsbD 1 then n else n &&& j.buttons

theorem Joypad.selected_getLsbD {k : Nat} (hk : k < 4) :
    j.selected.getLsbD k =
      ((j.sel.getLsbD 0 || j.dpad.getLsbD k) && (j.sel.getLsbD 1 || j.buttons.getLsbD k)) := by
  have ones : (0xF#4).getLsbD k = true := by interval_cases k <;> rfl
  unfold Joypad.selected
  cases j.sel.getLsbD 0 <;> cases j.sel.getLsbD 1 <;> simp [ones, -BitVec.getLsbD_eq_getElem]

theorem Joypad.read_eq : j.read = 0xC0#8 ||| j.sel.setWidth 8 <<< 4 ||| j.selected.setWidth 8 := rfl

/-- Bits 3-0 of JOYP: a latch counts where its select bit is 0 (R850). -/
theorem Joypad.read_low {k : Nat} (hk : k < 4) :
    j.read.getLsbD k = ((j.sel.getLsbD 0 || j.dpad.getLsbD k) && (j.sel.getLsbD 1 || j.buttons.getLsbD k)) := by
  have above : (0xC0#8 ||| j.sel.setWidth 8 <<< 4).getLsbD k = false := by
    have fixed : (0xC0#8).getLsbD k = false := by interval_cases k <;> rfl
    rw [BitVec.getLsbD_or, fixed, BitVec.getLsbD_shiftLeft, decide_eq_true hk]
    simp
  rw [Joypad.read_eq, BitVec.getLsbD_or, above, BitVec.getLsbD_setWidth, decide_eq_true (show k < 8 by omega),
    Joypad.selected_getLsbD j hk]
  rfl

/-- Bits 7-6 of JOYP are 1, and bits 5-4 the selection (R850). -/
theorem Joypad.read_high {k : Nat} (h4 : 4 ≤ k) (h8 : k < 8) :
    j.read.getLsbD k = ((0xC0 : Byte).getLsbD k || j.sel.getLsbD (k - 4)) := by
  rw [Joypad.read_eq, BitVec.getLsbD_or, BitVec.getLsbD_or, BitVec.getLsbD_setWidth, BitVec.getLsbD_of_ge _ k h4,
    Bool.and_false, Bool.or_false, BitVec.getLsbD_shiftLeft, BitVec.getLsbD_setWidth]
  simp [h8, show ¬ k < 4 by omega, show k - 4 < 8 by omega]

end

/-- Settles O29: JOYP's address is the register's, and its bits are the joypad's. -/
theorem joypadRegister : Obligations.JoypadRegister := by
  unfold Obligations.JoypadRegister
  intro s v
  have bit7 : s.joypad.read.getLsbD 7 = true := s.joypad.read_high (by decide) (by decide)
  have bit6 : s.joypad.read.getLsbD 6 = true := s.joypad.read_high (by decide) (by decide)
  have bit5 : s.joypad.read.getLsbD 5 = s.joypad.sel.getLsbD 1 := s.joypad.read_high (by decide) (by decide)
  have bit4 : s.joypad.read.getLsbD 4 = s.joypad.sel.getLsbD 0 := s.joypad.read_high (by decide) (by decide)
  exact ⟨busWrite_io s v (r := .joyp) rfl, s.joypad.read, busRead_io s (r := .joyp) rfl, bit7, bit6, bit5, bit4,
    fun k => s.joypad.read_low⟩

section
variable (latch : BitVec 4) (b : Nat) {i : Nat} (hi : i < 4)
include hi

theorem latchMask_getLsbD : (1#4 <<< b).getLsbD i = decide (i = b) := by
  show (BitVec.twoPow 4 b).getLsbD i = _
  rw [BitVec.getLsbD_twoPow, ← Bool.decide_and, decide_eq_decide]
  omega

theorem clearLatch_getLsbD : (latch &&& ~~~(1#4 <<< b)).getLsbD i = (latch.getLsbD i && !decide (i = b)) := by
  rw [BitVec.getLsbD_and, BitVec.getLsbD_not, latchMask_getLsbD b hi, decide_eq_true hi, Bool.true_and]

theorem setLatch_getLsbD : (latch ||| 1#4 <<< b).getLsbD i = (latch.getLsbD i || decide (i = b)) := by
  rw [BitVec.getLsbD_or, latchMask_getLsbD b hi]

end

section
variable (j : Joypad) (btn : Button)

theorem Joypad.press_sel : (j.press btn).sel = j.sel := by unfold Joypad.press; split <;> rfl

theorem Joypad.release_sel : (j.release btn).sel = j.sel := by unfold Joypad.release; split <;> rfl

/-- A press clears the button's bit in its own latch alone. -/
theorem Joypad.press_latches {i : Nat} (hi : i < 4) :
    (j.press btn).dpad.getLsbD i = (j.dpad.getLsbD i && !(onDpad btn && decide (i = latchBit btn))) ∧
      (j.press btn).buttons.getLsbD i = (j.buttons.getLsbD i && !(!onDpad btn && decide (i = latchBit btn))) := by
  cases h : onDpad btn <;> rw [Joypad.press, h]
  case true => exact ⟨clearLatch_getLsbD j.dpad _ hi, (Bool.and_true _).symm⟩
  case false => exact ⟨(Bool.and_true _).symm, clearLatch_getLsbD j.buttons _ hi⟩

/-- A release sets the button's bit in its own latch alone. -/
theorem Joypad.release_latches {i : Nat} (hi : i < 4) :
    (j.release btn).dpad.getLsbD i = (j.dpad.getLsbD i || (onDpad btn && decide (i = latchBit btn))) ∧
      (j.release btn).buttons.getLsbD i = (j.buttons.getLsbD i || (!onDpad btn && decide (i = latchBit btn))) := by
  cases h : onDpad btn <;> rw [Joypad.release, h]
  case true => exact ⟨setLatch_getLsbD j.dpad _ hi, (Bool.or_false _).symm⟩
  case false => exact ⟨(Bool.or_false _).symm, setLatch_getLsbD j.buttons _ hi⟩

end

/-- Settles O30: the table of R125 is `onDpad` and `latchBit`. -/
theorem joypadEvents : Obligations.JoypadEvents := by
  unfold Obligations.JoypadEvents
  intro j btn dpad k h
  obtain ⟨rfl, rfl⟩ : dpad = onDpad btn ∧ k = latchBit btn := by
    fin_cases h <;> exact ⟨rfl, rfl⟩
  refine ⟨j.press_sel btn, j.release_sel btn, fun i hi => ?_⟩
  obtain ⟨pressDpad, pressButtons⟩ := j.press_latches btn hi
  obtain ⟨releaseDpad, releaseButtons⟩ := j.release_latches btn hi
  exact ⟨pressDpad, pressButtons, releaseDpad, releaseButtons⟩

end Sys2Proof.Machine
end

section
/-! PROOFS. The timer (60_exceptions.md R820, R824): one cycle register by register, and DIV against the master clock. -/

namespace Sys2Proof.Machine

/-! ## One cycle -/

theorem divisor_eq (select : BitVec 2) :
    divisor select = if select = 0 then 1024 else if select = 1 then 16 else if select = 2 then 64 else 256 := by
  revert select
  decide

section
variable {t : Timer}

theorem Timer.ticks_iff :
    t.ticks = true ↔ t.enable = true ∧ (t.master + 1).toNat % divisor t.select = 0 := by
  rw [Timer.ticks, Bool.and_eq_true, decide_eq_true_eq, Timer.nextMaster]

theorem Timer.overflows_iff : t.overflows = true ↔ t.ticks = true ∧ t.tima = 0xFF := by
  rw [Timer.overflows, Bool.and_eq_true, decide_eq_true_eq]

/-- Where TIMA does not count, it keeps its value. -/
theorem Timer.cycle_tima_of_not_ticks (h : ¬ t.ticks = true) : t.cycle.tima = t.tima := by
  have overflows : ¬ t.overflows = true := fun ho => h (Timer.overflows_iff.mp ho).1
  rw [Timer.cycle, if_neg overflows, if_neg h]

/-- Where TIMA counts and does not overflow, it goes up by one. -/
theorem Timer.cycle_tima_of_ticks (h : t.ticks = true) (ho : ¬ t.overflows = true) : t.cycle.tima = t.tima + 1 := by
  rw [Timer.cycle, if_neg ho, if_pos h]

/-- Where TIMA overflows, it is reloaded in the same cycle (R824). -/
theorem Timer.cycle_tima_of_overflows (h : t.overflows = true) : t.cycle.tima = t.tma := by
  rw [Timer.cycle, if_pos h]

/-- A cycle writes the master clock, DIV and TIMA alone. -/
theorem Timer.cycle_record :
    t.cycle = { t with master := t.cycle.master, div := t.cycle.div, tima := t.cycle.tima } := rfl

end

section
variable {s : State}

theorem timerCycle_timer (s : State) : (timerCycle s).timer = s.timer.cycle := by rw [timerCycle_eq]

/-- The overflow raises the timer interrupt (R824). -/
theorem timerCycle_iflag_of_overflows (h : s.timer.overflows = true) : (timerCycle s).iflag = s.iflag ||| 0x04 := by
  rw [timerCycle_eq, if_pos h]
  rfl

theorem timerCycle_iflag_of_not_overflows (h : ¬ s.timer.overflows = true) : (timerCycle s).iflag = s.iflag := by
  rw [timerCycle_eq, if_neg h]

end

/-- Settles O32: `timer_step(1)` is one cycle, and TIMA counts, overflows or does neither (`timerCycle` is the
model's function). -/
theorem timerCycle_holds : Obligations.TimerCycle := by
  unfold Obligations.TimerCycle
  intro s m d ticks
  have ticks_iff : s.timer.ticks = true ↔ ticks := by rw [Timer.ticks_iff, divisor_eq]
  refine ⟨⟨timerCycle s, rfl, ?_⟩, rfl, fun n => rfl⟩
  rw [timerCycle_timer]
  refine ⟨rfl, fun h => if_pos h, fun h => if_neg h, fun h => ?_, fun h htima => ?_, fun h htima => ?_, ?_⟩
  · have idle : ¬ s.timer.ticks = true := mt ticks_iff.mp h
    exact ⟨Timer.cycle_tima_of_not_ticks idle,
      timerCycle_iflag_of_not_overflows fun ho => idle (Timer.overflows_iff.mp ho).1⟩
  · have counts : ¬ s.timer.overflows = true := fun ho => htima (Timer.overflows_iff.mp ho).2
    exact ⟨Timer.cycle_tima_of_ticks (ticks_iff.mpr h) counts, timerCycle_iflag_of_not_overflows counts⟩
  · have overflows : s.timer.overflows = true := Timer.overflows_iff.mpr ⟨ticks_iff.mpr h, htima⟩
    exact ⟨Timer.cycle_tima_of_overflows overflows, timerCycle_iflag_of_overflows overflows⟩
  · rw [timerCycle_eq]
    rfl

/-! ## DIV against the master clock (R820) -/

/-- In one cycle DIV counts the multiples of 256 that the master clock passes: one or none, also where it wraps. -/
theorem Timer.cycle_div (t : Timer) :
    t.cycle.div = t.div + BitVec.ofNat 8 ((t.master.toNat + 1) / 256 - t.master.toNat / 256) := by
  have next : t.nextMaster.toNat = (t.master.toNat + 1) % 2 ^ 32 := BitVec.toNat_add _ _
  by_cases h : t.nextMaster.toNat % 256 = 0
  · rw [Timer.cycle, if_pos h, show (t.master.toNat + 1) / 256 - t.master.toNat / 256 = 1 by omega]
    rfl
  · rw [Timer.cycle, if_neg h, show (t.master.toNat + 1) / 256 - t.master.toNat / 256 = 0 by omega]
    exact (BitVec.add_zero _).symm

/-- The multiples of 256 passed from `m` in one cycle and then, from the wrapped clock, in `n` more. -/
theorem multiples_passed_succ (m n : Nat) :
    ((m + 1) / 256 - m / 256) + (((m + 1) % 2 ^ 32 + n) / 256 - (m + 1) % 2 ^ 32 / 256) =
      (m + (n + 1)) / 256 - m / 256 := by omega

/-- Settles O33, by induction on the number of cycles: the wrap of the master clock is at a multiple of 256. -/
theorem divCountsMasterClock : Obligations.DivCountsMasterClock := by
  unfold Obligations.DivCountsMasterClock
  intro n
  induction n with
  | zero => simp [timerStep]
  | succ n ih =>
    intro s
    obtain ⟨master, div⟩ := ih (timerCycle s)
    have next : s.timer.cycle.master = s.timer.master + 1 := rfl
    have next_toNat : (s.timer.master + 1).toNat = (s.timer.master.toNat + 1) % 2 ^ 32 := BitVec.toNat_add _ _
    rw [timerCycle_timer, next] at master div
    constructor
    · rw [timerStep, master, Nat.add_comm n 1, BitVec.ofNat_add, ← BitVec.add_assoc]
      rfl
    · rw [timerStep, div, Timer.cycle_div, next_toNat, BitVec.add_assoc, ← BitVec.ofNat_add,
        multiples_passed_succ]

end Sys2Proof.Machine
end

section
/-! PROOFS. The PPU (60_exceptions.md R830 to R837): the position, the mode and the interrupts of one step, the pixel it
emits, and what a line and a frame of steps do. -/

namespace Sys2Proof.Machine

/-! ## Position, mode and interrupts of one step (R830, R831, R836) -/

theorem ppuStep_ppu (s : State) : (ppuStep s).ppu = ppuAfter s.vram s.ppu := by rw [ppuStep_eq]

theorem modeAt_toNat (line dot : Nat) :
    (modeAt line dot).toNat = if 144 ≤ line then 1 else if dot < 80 then 2 else if dot < 252 then 3 else 0 := by
  rw [modeAt, apply_ite BitVec.toNat, apply_ite BitVec.toNat, apply_ite BitVec.toNat]
  rfl

section
variable (p : Ppu)

theorem Ppu.endsLine_iff : p.endsLine = true ↔ p.dot + 1 = 456 := decide_eq_true_iff

theorem Ppu.nextDot_eq : p.nextDot = if p.dot + 1 = 456 then 0 else p.dot + 1 := by
  simp only [Ppu.nextDot, Ppu.endsLine_iff]

theorem Ppu.nextLine_eq :
    p.nextLine = if p.dot + 1 = 456 then (if p.line + 1 = 154 then 0 else p.line + 1) else p.line := by
  simp only [Ppu.nextLine, Ppu.endsLine_iff]
  rfl

theorem Ppu.entersVblank_iff : p.entersVblank = true ↔ p.dot + 1 = 456 ∧ p.nextLine = 144 := by
  rw [Ppu.entersVblank, Bool.and_eq_true, Ppu.endsLine_iff, decide_eq_true_eq, Config.visibleLines]

theorem Ppu.hitsLyc_iff :
    p.hitsLyc = true ↔ p.dot + 1 = 456 ∧ p.nextLine = p.lyc.toNat ∧ p.statW.getLsbD 6 = true := by
  rw [Ppu.hitsLyc, Bool.and_eq_true, Bool.and_eq_true, Ppu.endsLine_iff, decide_eq_true_eq, and_assoc]

/-- The STAT enable bit of mode `m` is bit `3 + m`; mode 3 has none. -/
theorem Ppu.modeEnabled_iff (m : BitVec 2) :
    p.modeEnabled m = true ↔ m.toNat ≠ 3 ∧ p.statW.getLsbD (3 + m.toNat) = true := by
  obtain rfl | rfl | rfl | rfl : m = 0 ∨ m = 1 ∨ m = 2 ∨ m = 3 := by revert m; decide
  all_goals simp [Ppu.modeEnabled]

theorem Ppu.entersEnabledMode_iff :
    p.entersEnabledMode = true ↔
      (modeAt p.nextLine p.nextDot).toNat ≠ p.mode.toNat ∧ (modeAt p.nextLine p.nextDot).toNat ≠ 3 ∧
        p.statW.getLsbD (3 + (modeAt p.nextLine p.nextDot).toNat) = true := by
  rw [Ppu.entersEnabledMode, Bool.and_eq_true, decide_eq_true_eq, Ppu.modeEnabled_iff, ne_eq, ← BitVec.toNat_inj]

end

/-- Raising source `k` sets bit `k` of IF and no other (R805). -/
theorem raiseIf_getLsbD (s : State) (b : Bool) {k : Nat} (hk : k < 8) (j : Nat) :
    (s.raiseIf b k).iflag.getLsbD j = true ↔ s.iflag.getLsbD j = true ∨ (j = k ∧ b = true) := by
  cases b with
  | false => simp [State.raiseIf]
  | true =>
    show (s.iflag ||| bitMask k).getLsbD j = true ↔ _
    rw [BitVec.getLsbD_or, bitMask_getLsbD, Bool.or_eq_true, Bool.and_eq_true, decide_eq_true_eq, decide_eq_true_eq]
    have : j < 8 ∧ j = k ↔ j = k := by omega
    simp only [this, and_true]

/-- The bits of IF after one step (R836). -/
theorem ppuStep_iflag (s : State) (k : Nat) :
    (ppuStep s).iflag.getLsbD k = true ↔
      s.iflag.getLsbD k = true ∨ (k = 0 ∧ s.ppu.entersVblank = true) ∨
        (k = 1 ∧ (s.ppu.hitsLyc = true ∨ s.ppu.entersEnabledMode = true)) := by
  rw [ppuStep, raiseIf_getLsbD _ _ (by decide), raiseIf_getLsbD _ _ (by decide), Bool.or_eq_true, or_assoc]
  rfl

/-- Settles O34: the position is `nextLine` and `nextDot`, and each interrupt condition is the statement's. -/
theorem ppuStepPositionAndInterrupts : Obligations.PpuStepPositionAndInterrupts := by
  unfold Obligations.PpuStepPositionAndInterrupts
  intro s p mode dot line vblank lyc entered
  have hdot : p.nextDot = dot := p.nextDot_eq
  have hline : p.nextLine = line := p.nextLine_eq
  have hmode (l d : Nat) : (modeAt l d).toNat = mode l d := modeAt_toNat l d
  have hvblank : p.entersVblank = true ↔ vblank := by rw [Ppu.entersVblank_iff, hline]
  have hlyc : p.hitsLyc = true ↔ lyc := by rw [Ppu.hitsLyc_iff, hline]
  have hentered : p.entersEnabledMode = true ↔ entered := by
    rw [Ppu.entersEnabledMode_iff, Ppu.mode, hline, hdot, hmode, hmode]
  refine ⟨ppuStep s, rfl, ?_, ?_, ?_, fun k => ?_, ?_⟩
  · rw [ppuStep_ppu]; exact hline
  · rw [ppuStep_ppu]; exact hdot
  · rw [ppuStep_ppu, ← hmode, ← hline, ← hdot]; rfl
  · rw [ppuStep_iflag, ← hvblank, ← hlyc, ← hentered]
  · rw [ppuStep_ppu]; exact ppuStep_eq s

/-! ## The pixel of one step (R830, R832, R833, R835) -/

/-- The tile data of R833, as an offset in VRAM. -/
theorem tileAddress_eq (lcdc id : Byte) :
    tileAddress lcdc id = 0x8000 + if lcdc.getLsbD 4 then 16 * id.toNat
      else if id.toNat < 128 then 0x1000 + 16 * id.toNat else 16 * id.toNat := by
  have hid := id.isLt
  unfold tileAddress
  rw [BitVec.toInt_eq_toNat_cond]
  split
  · rfl
  · split <;> split <;> omega

theorem colourIndex_eq (lo hi : Byte) (b : Nat) :
    colourIndex lo hi b = (if lo.getLsbD b then 1 else 0) + (if hi.getLsbD b then 2 else 0) := by
  cases h : hi.getLsbD b <;> simp [colourIndex, bit, h]

theorem paletteSlot_eq (bgp : Byte) (colour : Nat) :
    paletteSlot bgp colour = BitVec.ofNat 2 (bgp.toNat / 4 ^ colour) := by
  apply BitVec.eq_of_toNat_eq
  rw [paletteSlot, BitVec.toNat_setWidth, BitVec.toNat_ushiftRight, BitVec.toNat_ofNat, Nat.shiftRight_eq_div_pow,
    Nat.pow_mul]

theorem Ppu.emits_iff (p : Ppu) : p.emits = true ↔ p.line < 144 ∧ 80 ≤ p.dot ∧ p.dot < 240 := decide_eq_true_iff

/-- EVERY CELL AFTER ONE STEP: the emitted one holds the pixel, the others are kept. -/
theorem ppuStep_read {s : State} (hi : s.Inv) (k : Nat) :
    (ppuStep s).ppu.fb.read k =
      if s.ppu.emits = true ∧ k = 160 * s.ppu.line + (s.ppu.dot - 80) then
        some (bgPixel s.vram s.ppu (s.ppu.dot - 80) s.ppu.line)
      else s.ppu.fb.read k := by
  rw [ppuStep_ppu]
  show (framebufferAfter s.vram s.ppu).read k = _
  cases h : s.ppu.emits with
  | false => simp [framebufferAfter, h]
  | true =>
    rw [framebufferAfter, if_pos h, Framebuffer.read_write hi.fb]
    simp only [true_and]
    rfl

/-- Settles O35: the emitted pixel is `bgPixel`, whose addresses are the statement's VRAM offsets. -/
theorem ppuStepEmitsBackgroundPixel : Obligations.PpuStepEmitsBackgroundPixel := by
  unfold Obligations.PpuStepEmitsBackgroundPixel
  intro s hi p x sx sy mapBase id tile lo hi' b colour slot
  have pixel : bgPixel s.vram p x p.line = slot := by
    have hmap : (if p.lcdc.getLsbD 3 then 0x9C00 else 0x9800) = 0x8000 + mapBase := by
      show _ = 0x8000 + if p.lcdc.getLsbD 3 then 0x1C00 else 0x1800
      split <;> rfl
    have offset (n k : Nat) : 0x8000 + n + k - 0x8000 = n + k := by omega
    have offset' (n k l : Nat) : 0x8000 + n + k + l - 0x8000 = n + k + l := by omega
    simp only [bgPixel, hmap, tileAddress_eq, colourIndex_eq, paletteSlot_eq, offset, offset']
    rfl
  have read := ppuStep_read hi
  constructor
  · intro h
    have emitted : (ppuStep s).ppu.fb.read (160 * p.line + x) = some slot := by
      rw [read, if_pos ⟨p.emits_iff.mpr h, rfl⟩, ← pixel]
    refine ⟨emitted, congrArg (Option.map Config.hostPalette) emitted, fun part _ => ⟨part.nonneg, part.atMostOne⟩,
      fun k hk => ?_⟩
    rw [read, if_neg fun hc => hk hc.2]
  · intro h
    rw [ppuStep_ppu]
    exact if_neg (mt p.emits_iff.mp h)

/-! ## Frames and lines (R830) -/

/-- The dots since the start of the frame. -/
def Ppu.position (p : Ppu) : Nat := 456 * p.line + p.dot

theorem ppuStep_inv {s : State} (h : s.Inv) : (ppuStep s).Inv := by
  rw [ppuStep_eq]
  exact { ppuAfter_inv h with }

theorem ppuSteps_succ (n : Nat) (s : State) : ppuSteps (n + 1) s = ppuStep (ppuSteps n s) := by
  induction n generalizing s with
  | zero => rfl
  | succ n ih => exact ih (ppuStep s)

theorem ppuSteps_inv (n : Nat) {s : State} (h : s.Inv) : (ppuSteps n s).Inv := by
  induction n with
  | zero => exact h
  | succ n ih => rw [ppuSteps_succ]; exact ppuStep_inv ih

theorem State.Inv.line_lt {s : State} (h : s.Inv) : s.ppu.line < 154 := h.line

theorem State.Inv.dot_lt {s : State} (h : s.Inv) : s.ppu.dot < 456 := h.dot

theorem ppuStep_position {s : State} (h : s.Inv) : (ppuStep s).ppu.position = (s.ppu.position + 1) % 70224 := by
  have hl := h.line_lt
  have hd := h.dot_lt
  rw [ppuStep_ppu]
  show 456 * s.ppu.nextLine + s.ppu.nextDot = (456 * s.ppu.line + s.ppu.dot + 1) % 70224
  rw [Ppu.nextLine_eq, Ppu.nextDot_eq]
  split
  · split <;> omega
  · omega

theorem position_lt {s : State} (h : s.Inv) : s.ppu.position < 70224 := by
  have hl := h.line_lt
  have hd := h.dot_lt
  unfold Ppu.position
  omega

theorem ppuSteps_position (n : Nat) {s : State} (h : s.Inv) :
    (ppuSteps n s).ppu.position = (s.ppu.position + n) % 70224 := by
  induction n with
  | zero => exact (Nat.mod_eq_of_lt (position_lt h)).symm
  | succ n ih => rw [ppuSteps_succ, ppuStep_position (ppuSteps_inv n h), ih, Nat.mod_add_mod, Nat.add_assoc]

/-- The position fixes the line and the dot. -/
theorem position_eq_iff {s t : State} (hs : s.Inv) (ht : t.Inv) :
    t.ppu.position = s.ppu.position ↔ t.ppu.line = s.ppu.line ∧ t.ppu.dot = s.ppu.dot := by
  have h1 := hs.dot_lt
  have h2 := ht.dot_lt
  unfold Ppu.position
  omega

/-- Settles O36: the position counts the steps mod 70,224. -/
theorem frameIs70224Steps : Obligations.FrameIs70224Steps := by
  unfold Obligations.FrameIs70224Steps
  intro s n hi _
  have hp := position_lt hi
  rw [← position_eq_iff hi (ppuSteps_inv n hi), ppuSteps_position n hi]
  omega

/-- `n` steps after dot 0 of a visible line, before its end, the position is dot `n` of that line. -/
theorem ppuSteps_in_line {s : State} (hi : s.Inv) (hv : s.ppu.line < 144) (h0 : s.ppu.dot = 0) {n : Nat} (hn : n < 456) :
    (ppuSteps n s).ppu.line = s.ppu.line ∧ (ppuSteps n s).ppu.dot = n := by
  have hd := (ppuSteps_inv n hi).dot_lt
  have position := ppuSteps_position n hi
  unfold Ppu.position at position
  omega

/-- The cells after `n` steps from dot 0 of a visible line: those of the dots passed are written, those of other lines
kept. -/
theorem ppuSteps_line_cells {s : State} (hi : s.Inv) (hv : s.ppu.line < 144) (h0 : s.ppu.dot = 0) {n : Nat}
    (hn : n ≤ 456) :
    (∀ x, x < 160 → 80 + x < n → ((ppuSteps n s).ppu.fb.read (160 * s.ppu.line + x)).isSome = true) ∧
    ∀ k, k / 160 ≠ s.ppu.line → (ppuSteps n s).ppu.fb.read k = s.ppu.fb.read k := by
  induction n with
  | zero => exact ⟨fun x _ h => absurd h (by omega), fun k _ => rfl⟩
  | succ n ih =>
    obtain ⟨written, kept⟩ := ih (by omega)
    obtain ⟨hline, hdot⟩ := ppuSteps_in_line hi hv h0 hn
    have read := ppuStep_read (ppuSteps_inv n hi)
    simp only [Ppu.emits_iff, hline, hdot] at read
    rw [ppuSteps_succ]
    constructor
    · intro x hx hpassed
      rw [read]
      split
      · rfl
      · exact written x hx (by omega)
    · intro k hk
      rw [read, if_neg (by omega)]
      exact kept k hk

/-- Settles O37: the 456 steps of the line pass all its cells' dots. -/
theorem visibleLineWritesItsCells : Obligations.VisibleLineWritesItsCells := by
  unfold Obligations.VisibleLineWritesItsCells
  intro s hi hv h0
  obtain ⟨written, kept⟩ := ppuSteps_line_cells hi hv h0 (Nat.le_refl 456)
  exact ⟨fun x hx => written x hx (by omega), kept⟩

end Sys2Proof.Machine
end

section
/-! PROOFS. The opcode bytes that the source shows (30_encoding.md, preamble), against `encode`. -/

namespace Sys2Proof

theorem decode_of_encode {i : Instr} {bytes : List Byte} (h : encode i = bytes) : decode bytes = .ok (i, []) := by
  simpa [h] using decode_encode i []

/-- Settles O3: each byte list is the encoding of the instruction that the source names. -/
theorem sourceBytesDecode : Obligations.SourceBytesDecode := by
  unfold Obligations.SourceBytesDecode
  exact ⟨decode_of_encode rfl, decode_of_encode rfl, decode_of_encode rfl, decode_of_encode rfl, decode_of_encode rfl,
    decode_of_encode rfl, decode_of_encode rfl, decode_of_encode rfl, decode_of_encode rfl, decode_of_encode rfl,
    decode_of_encode rfl, decode_of_encode rfl, decode_of_encode rfl⟩

end Sys2Proof
end
